-- ==== Sys2Proof/Word.lean ====
section
/-! DEFINITION. The byte, the one unit of the block's memories (spec/00_scope.md R8, spec/20_memory.md R40), and a byte
array as its readers see it. -/

namespace Sys2Proof

/-- R8: a byte is 8 bits, bit 0 the least significant. -/
abbrev Byte := BitVec 8

/-- R8: a byte array `B` as an operand: `B i` is the byte at offset `i`. No field of the state has this type; a command
reads through it and checks its bounds first (R48). -/
abbrev View := Nat → Byte

end Sys2Proof
end

