-- ==== Sys2Proof/Config.lean ====
section
/-! DEFINITION. What a run of the block fixes and what the spec leaves free: the parameters of spec/00_scope.md R6, the
codes of spec/60_exceptions.md R205, the free byte of spec/20_memory.md R53, and the reset values the spec does not give
(notes/assumptions 2 to 8). -/

namespace Sys2Proof

/-- R206: the three severities of a diagnostic, coded 0, 1, 2. -/
inductive Severity where
  /-- 0, informational. -/
  | informational
  /-- 1, warning. -/
  | warning
  /-- 2, error. -/
  | error
  deriving DecidableEq, Repr

/-- R205: the seven diagnostics, in the order of their codes 1 to 7 (`Machine.diagNumber`). -/
inductive DiagCode where
  /-- 1, `FRAME_GAP` (R155). -/
  | frameGap
  /-- 2, `PROTO_START_WITH_PENDING` (R159). -/
  | protoStartWithPending
  /-- 3, `PROTO_CONT_WITHOUT_PENDING` (R160). -/
  | protoContWithoutPending
  /-- 4, `FIRST_FRAME_CONTINUATION` (R160). -/
  | firstFrameContinuation
  /-- 5, `PACKET_INCOMPLETE` (R165). -/
  | packetIncomplete
  /-- 6, `IDLE_FILL` (R169). -/
  | idleFill
  /-- 7, `END_INCOMPLETE` (R178). -/
  | endIncomplete
  deriving DecidableEq, Repr

/-- The parameters of a run (R6, R32): values the implementation fixes and no command writes. The severity of
`FIRST_FRAME_CONTINUATION` is no parameter: R206 fixes it. -/
structure Params where
  /-- `IBUF_CAP`: the capacity of the input buffer in bytes (R6, R12). -/
  ibufCap : Nat
  /-- `PREVIEW_BYTES`: how many leading bytes END_INCOMPLETE shows (R6, R205). -/
  previewBytes : Nat
  /-- `DFH_STYPE_OFF` (R70). -/
  dfhStypeOff : Nat
  /-- `DFH_SSUB_OFF` (R70). -/
  dfhSsubOff : Nat
  /-- `DFH_DEST_OFF` (R70). -/
  dfhDestOff : Nat
  /-- `DFH_TIME_OFF` (R70). -/
  dfhTimeOff : Nat
  /-- `DIAG_SEV(FRAME_GAP)` (R206). -/
  sevFrameGap : Severity
  /-- `DIAG_SEV(PROTO_START_WITH_PENDING)` (R206). -/
  sevStartWithPending : Severity
  /-- `DIAG_SEV(PROTO_CONT_WITHOUT_PENDING)` (R206). -/
  sevContWithoutPending : Severity
  /-- `DIAG_SEV(PACKET_INCOMPLETE)` (R206). -/
  sevPacketIncomplete : Severity
  /-- `DIAG_SEV(IDLE_FILL)` (R206). -/
  sevIdleFill : Severity
  /-- `DIAG_SEV(END_INCOMPLETE)` (R206). -/
  sevEndIncomplete : Severity
  deriving DecidableEq, Repr

/-- The defaults of R6, R70 and R206 (D9, D23, D29). -/
def Params.default : Params where
  ibufCap := 65542
  previewBytes := 16
  dfhStypeOff := 7
  dfhSsubOff := 8
  dfhDestOff := 9
  dfhTimeOff := 10
  sevFrameGap := .warning
  sevStartWithPending := .error
  sevContWithoutPending := .error
  sevPacketIncomplete := .warning
  sevIdleFill := .informational
  sevEndIncomplete := .warning

/-- Which of its reads a command makes when it reads a byte of `IBUF`: one value for each read that the spec's
pseudocode writes out, so that two reads of one byte which the host never wrote are two draws (R53: "need not be the
same at two reads"; notes/assumptions/2.md). -/
inductive ReadSite where
  /-- The one field an accessor, an FR.RDn or CRC.COMPUTE reads (R93, R105 to R111, R125 to R131, R144). -/
  | field
  /-- FV.VALIDATE, `F[0][7:6]` (R104). -/
  | frVersion
  /-- FV.VALIDATE, `F[4][7]` (R104). -/
  | frSechdr
  /-- FV.VALIDATE, `F[4][6]` (R104). -/
  | frSync
  /-- FV.VALIDATE, `F[4][5]` (R104). -/
  | frOrder
  /-- FV.VALIDATE, `F[4][4:3]` (R104). -/
  | frSeglen
  /-- The packet length field of PV.VALIDATE, PV.PEC, PV.PAYLOAD (R124, R132, R133). -/
  | pkLength
  /-- PV.VALIDATE, `P[0][7:5]` (R124). -/
  | pkVersion
  /-- PV.VALIDATE, `P[0][4]` (R124). -/
  | pkType
  /-- PV.VALIDATE, `P[0][3]` (R124). -/
  | pkDfh
  /-- PV.VALIDATE, `P[2][7:6]` (R124). -/
  | pkSeg
  /-- PV.VALIDATE, the bytes the CRC runs over (R124). -/
  | pkCrcRun
  /-- The packet error control of PV.VALIDATE and PV.PEC (R124, R132). -/
  | pkPec
  /-- X.ADD, `F[1][3:1]` at entry (R151). -/
  | addVcid
  /-- X.ADD, `F[1][0]` at entry (R151). -/
  | addOcf
  /-- X.ADD, `F[3]` at entry (R151). -/
  | addCounter
  /-- X.ADD, `F[4][2:0] ++ F[5]` at entry (R151). -/
  | addFhp
  /-- X.ADD step 5c, the bytes appended to `RB` (R161). -/
  | addAppend
  /-- X.ADD step 6, the peeked length field (R168). -/
  | addPeek
  /-- X.ADD step 6, the CRC field of the idle test (R169). -/
  | addIdle
  /-- X.ADD step 6, the bytes of an emitted packet (R170). -/
  | addPacket
  /-- X.ADD step 6, the bytes copied into a fresh `RB` (R167, R171). -/
  | addTail
  deriving DecidableEq, Repr

/-- The free value of R53 (93_implementation_defined.md U3): what a read of a byte of `IBUF` that the host has not
written since reset gives, for the draw number, the read and the offset. It has no body: nothing can be proved of its
value (DESIGN CHOICE, notes/assumptions/2.md). -/
opaque Config.unwrittenByte : Nat → ReadSite → Nat → Byte

/-- `FR_CUR` at reset: the spec gives no value (R33). DESIGN CHOICE, notes/assumptions/3.md. -/
def Config.resetFrCur : BitVec 32 := 0#32

/-- `EXPECTED` at reset: the spec gives no value (R33). DESIGN CHOICE, notes/assumptions/4.md. -/
def Config.resetExpected : BitVec 8 := 0#8

/-- The model argument `VCID` of `State.reset` (R6, R17): the spec gives no default. DESIGN CHOICE,
notes/assumptions/5.md. -/
def Config.defaultVcid : BitVec 3 := 0#3

/-- The draw number at reset, of the model's own field `draws`. DESIGN CHOICE, notes/assumptions/2.md. -/
def Config.resetDraws : Nat := 0

end Sys2Proof
end

