-- ==== Sys2Proof/Syntax.lean ====
section
/-! DEFINITION. The 31 commands of the block (spec/30_encoding.md R72, spec/opcode_table.json) and the actions of the
host that drives it (R79, spec/00_scope.md R7). A command has no operand besides its opcode (R73). -/

namespace Sys2Proof

/-- R72: the complete command set, one constructor per row of spec/opcode_table.json, in the table's order. -/
inductive Instr where
  /-- FR.BIND, opcode 0x00, R91. -/
  | frBind
  /-- FR.RD1, opcode 0x01, R94. -/
  | frRd1
  /-- FR.RD2, opcode 0x02, R95. -/
  | frRd2
  /-- FR.RD4, opcode 0x03, R96. -/
  | frRd4
  /-- FR.RD8, opcode 0x04, R97. -/
  | frRd8
  /-- FR.OFS, opcode 0x05, R98. -/
  | frOfs
  /-- FV.VALIDATE, opcode 0x10, R104. -/
  | fvValidate
  /-- FV.SCID, opcode 0x11, R105. -/
  | fvScid
  /-- FV.VCID, opcode 0x12, R106. -/
  | fvVcid
  /-- FV.MCFC, opcode 0x13, R107. -/
  | fvMcfc
  /-- FV.VCFC, opcode 0x14, R108. -/
  | fvVcfc
  /-- FV.OCF, opcode 0x15, R109. -/
  | fvOcf
  /-- FV.FHP, opcode 0x16, R110. -/
  | fvFhp
  /-- FV.DATA, opcode 0x17, R111. -/
  | fvData
  /-- PV.VALIDATE, opcode 0x20, R124. -/
  | pvValidate
  /-- PV.APID, opcode 0x21, R125. -/
  | pvApid
  /-- PV.SEQ, opcode 0x22, R126. -/
  | pvSeq
  /-- PV.LEN, opcode 0x23, R127. -/
  | pvLen
  /-- PV.STYPE, opcode 0x24, R128. -/
  | pvStype
  /-- PV.SSUB, opcode 0x25, R129. -/
  | pvSsub
  /-- PV.DEST, opcode 0x26, R130. -/
  | pvDest
  /-- PV.TIME, opcode 0x27, R131. -/
  | pvTime
  /-- PV.PEC, opcode 0x28, R132. -/
  | pvPec
  /-- PV.PAYLOAD, opcode 0x29, R133. -/
  | pvPayload
  /-- CRC.COMPUTE, opcode 0x30, R144. -/
  | crcCompute
  /-- X.ADD, opcode 0x40, R151. -/
  | xAdd
  /-- X.END, opcode 0x41, R178. -/
  | xEnd
  /-- X.NPROC, opcode 0x42, R181. -/
  | xNproc
  /-- X.NEXTR, opcode 0x43, R182. -/
  | xNextr
  /-- X.NMISS, opcode 0x44, R183. -/
  | xNmiss
  /-- X.NLOST, opcode 0x45, R184. -/
  | xNlost
  deriving DecidableEq, Repr

/-- What the host can do between commands (R7, R79, R203, R223): reset the block, write its input buffer and its input
length, or issue a command. The block never acts on its own. -/
inductive HostAction where
  /-- `RESET <vcid>` (R79, R220): reset, with the virtual channel the extractor is to serve. -/
  | reset (vcid : BitVec 3)
  /-- `LOAD <hex bytes>` (R79, R223): write the bytes to `IBUF[0..n)` and then `ILEN <- n`. -/
  | load (bytes : List Byte)
  /-- A host write of one byte of `IBUF` (R40, R203). -/
  | writeIbuf (offset : Nat) (byte : Byte)
  /-- A host write of `ILEN` (R12, R203). -/
  | writeIlen (length : BitVec 32)
  /-- An opcode written to the command port (R73). -/
  | command (opcode : BitVec 8)
  deriving DecidableEq, Repr

end Sys2Proof
end

