-- ==== Sys2Proof/Machine/State.lean ====
section
/-! DEFINITION. The state of the block (spec/10_state.md R10), its outputs (R30), the ways a step can stop, and the state
after reset (R33). -/

namespace Sys2Proof.Machine

/-- R30: what the block has produced besides command responses. -/
inductive Event where
  /-- `Emit(bytes, len, reconstructed)`: one packet handed to the sink (R176). -/
  | emit (bytes : List Byte) (len : Nat) (reconstructed : Bool)
  /-- `Diag(code, severity, arg0, arg1, preview)`: one diagnostic (R205). -/
  | diag (code : DiagCode) (severity : Severity) (arg0 arg1 : BitVec 32) (preview : List Byte)
  deriving DecidableEq, Repr

/-- The state of R10, one field for each register, and three fields of the model's own: the run's parameters (R32), the
host actions still to come (R7) and the number of draws made (R53). Two entries of R10 are no fields: `RB_LEN` is the
length of `rb` (`State.rbLen`, notes/assumptions/9.md) and `CRC_TABLE` is a constant (`crcTable`, R24,
notes/assumptions/10.md). -/
structure State where
  /-- `IBUF`: the bytes the host has written since reset, offsets rising (R10, R41, R53). -/
  ibuf : List Host.Cell
  /-- `ILEN` (R12). -/
  ilen : BitVec 32
  /-- `STATUS`: `VMASK[15:8]`, `CAUSE[7:4]`, `ERR[3:0]` (R13). -/
  status : BitVec 16
  /-- `RES0` (R14). -/
  res0 : BitVec 64
  /-- `RES1` (R14). -/
  res1 : BitVec 32
  /-- `FR_BOUND` (R16). -/
  frBound : Bool
  /-- `FR_CUR` (R16). -/
  frCur : BitVec 32
  /-- `CFG_VCID` (R17). -/
  cfgVcid : BitVec 3
  /-- `STARTED` (R18). -/
  started : Bool
  /-- `EXPECTED` (R19). -/
  expected : BitVec 8
  /-- `RB_PRESENT` (R20). -/
  rbPresent : Bool
  /-- `RB[0..RB_LEN)` (R20, R42). -/
  rb : List Byte
  /-- `FRAMES_PROCESSED` (R22). -/
  framesProcessed : BitVec 32
  /-- `PACKETS_EXTRACTED` (R22). -/
  packetsExtracted : BitVec 32
  /-- `FRAMES_MISSING` (R22). -/
  framesMissing : BitVec 32
  /-- `PACKETS_LOST` (R22). -/
  packetsLost : BitVec 32
  /-- `OUT`, oldest event first (R30). -/
  out : List Event
  /-- The run's parameters (R6, R32), which no step writes. The model's own field. -/
  params : Params
  /-- The host actions still to come, the next one first (R7). The model's own field, notes/assumptions/1.md. -/
  host : List HostAction
  /-- The number of the draw that gives unwritten bytes of `IBUF` (R53). The model's own field,
  notes/assumptions/2.md. -/
  draws : Nat
  deriving DecidableEq, Repr

/-- Why a step stops. -/
inductive Fault where
  /-- A host write to an offset of `IBUF` that does not exist (R40), or a LOAD of more bytes than `IBUF` or `ILEN` can
  hold (R10, R12). Raised by the host actions `load` and `writeIbuf`, by no command. Safe: the spec gives the host no
  such move (notes/assumptions/11.md). -/
  | hostWriteOutsideIbuf
  deriving DecidableEq, Repr

/-- Why an instruction has no meaning. -/
inductive Refusal where
  /-- An instruction that is not modelled yet, by its mnemonic. Raised by no arm: all 31 commands have their meaning.
  Safe. -/
  | notModelled (mnemonic : String)
  deriving DecidableEq, Repr

/-- What a command answers. -/
abbrev Result := Host.Outcome State Fault Refusal

/-- R33, R220: the state right after reset, with the default parameters. `FR_CUR`, `EXPECTED` and `VCID`, for which the
spec gives no value, hold the values of Config. -/
def State.reset : State where
  ibuf := []
  ilen := 0#32
  status := 0#16
  res0 := 0#64
  res1 := 0#32
  frBound := false
  frCur := Config.resetFrCur
  cfgVcid := Config.defaultVcid
  started := false
  expected := Config.resetExpected
  rbPresent := false
  rb := []
  framesProcessed := 0#32
  packetsExtracted := 0#32
  framesMissing := 0#32
  packetsLost := 0#32
  out := []
  params := Params.default
  host := []
  draws := Config.resetDraws

end Sys2Proof.Machine
end

