-- ==== Sys2Proof/Machine/Flags.lean ====
section
/-! DEFINITION. The fields of `STATUS` (spec/10_state.md R13): error classes (spec/60_exceptions.md R190), the mask of violated
validation rules and its primary cause (spec/41_frameview.md R103, R104, spec/42_packetview.md R123, R124). -/

namespace Sys2Proof.Machine

/-- R190: the six error classes. -/
inductive ErrClass where
  /-- Code 1, R192. -/
  | invalidArgument
  /-- Code 2, R193. -/
  | outOfBounds
  /-- Code 3, R194. -/
  | malformedFrame
  /-- Code 4, R195. -/
  | malformedPacket
  /-- Code 5, R196. -/
  | wrongChannel
  /-- Code 6, R197. -/
  | badOpcode
  deriving DecidableEq, Repr

/-- R190: the number of an error class in `STATUS.ERR`; 0 is OK. -/
def ErrClass.code : ErrClass → BitVec 4
  | .invalidArgument => 1#4
  | .outOfBounds => 2#4
  | .malformedFrame => 3#4
  | .malformedPacket => 4#4
  | .wrongChannel => 5#4
  | .badOpcode => 6#4

/-- R13: `STATUS` from its three fields, `VMASK[15:8]`, `CAUSE[7:4]`, `ERR[3:0]`. -/
def statusWord (vmask : BitVec 8) (cause err : BitVec 4) : BitVec 16 :=
  vmask ++ cause ++ err

/-- R13: the field `ERR`. -/
def statusErr (status : BitVec 16) : BitVec 4 := status.extractLsb' 0 4

/-- R13: the field `CAUSE`. -/
def statusCause (status : BitVec 16) : BitVec 4 := status.extractLsb' 4 4

/-- R13: the field `VMASK`. -/
def statusVmask (status : BitVec 16) : BitVec 8 := status.extractLsb' 8 8

/-- R103, R123: the mask whose bit `b` says that validation rule `b` is violated; bits 6 and 7 are always 0. -/
def violationMask (b0 b1 b2 b3 b4 b5 : Bool) : BitVec 8 :=
  0#2 ++ BitVec.ofBool b5 ++ BitVec.ofBool b4 ++ BitVec.ofBool b3 ++ BitVec.ofBool b2 ++ BitVec.ofBool b1 ++
    BitVec.ofBool b0

/-- R13, R104: the index of the lowest set bit of `m` (0 where `m` is 0). -/
def lowestSetBit (m : BitVec 8) : BitVec 4 :=
  if m.getLsbD 0 then 0#4
  else if m.getLsbD 1 then 1#4
  else if m.getLsbD 2 then 2#4
  else if m.getLsbD 3 then 3#4
  else if m.getLsbD 4 then 4#4
  else if m.getLsbD 5 then 5#4
  else if m.getLsbD 6 then 6#4
  else if m.getLsbD 7 then 7#4
  else 0#4

/-- R104, R124: the `STATUS` a validate command leaves: 0 when no rule is violated, else the class, the mask and the
primary cause. -/
def validationStatus (cls : ErrClass) (m : BitVec 8) : BitVec 16 :=
  if m = 0#8 then 0#16 else statusWord m (lowestSetBit m) cls.code

end Sys2Proof.Machine
end

