-- ==== Sys2Proof/Machine/Ops.lean ====
section
/-! DEFINITION. The named operations over memory and registers: the input buffer (spec/20_memory.md R40, R53), the response
of a command (spec/10_state.md R14, spec/60_exceptions.md R191), the saturating counters (spec/10_state.md R23) and the output
trace (R30). -/

namespace Sys2Proof.Machine

/-! ## The input buffer -/

/-- The byte listed at an offset, if the host has written one there since reset (R53). -/
def Memory.lookup : List Host.Cell → Nat → Option Byte
  | [], _ => none
  | (a, b) :: m, offset => if a = offset then some b else Memory.lookup m offset

/-- Write one byte, keeping the offsets strictly rising. -/
def Memory.write : List Host.Cell → Nat → Byte → List Host.Cell
  | [], offset, b => [(offset, b)]
  | (a, c) :: m, offset, b =>
    if offset < a then (offset, b) :: (a, c) :: m
    else if offset = a then (offset, b) :: m
    else (a, c) :: Memory.write m offset b

/-- Write a run of bytes at rising offsets (R223). -/
def Memory.writeRun : List Host.Cell → Nat → List Byte → List Host.Cell
  | m, _, [] => m
  | m, offset, b :: bs => Memory.writeRun (Memory.write m offset b) (offset + 1) bs

/-- The one canonical form: offsets strictly rising. An offset that is not listed reads as a free value, which no listed
byte equals by form, so nothing else is asked (notes/assumptions/6.md). -/
abbrev Memory.wf (m : List Host.Cell) : Prop :=
  (m.map Prod.fst).Pairwise (· < ·)

/-- R53, R55: `IBUF` as one read of a command sees it: the byte the host wrote, else the free value of this draw, this
read and this offset. -/
def State.view (s : State) (r : ReadSite) : View := fun offset =>
  match Memory.lookup s.ibuf offset with
  | some b => b
  | none => Config.unwrittenByte s.draws r offset

/-! ## The response of a command -/

/-- R14: every command writes `STATUS`, `RES0` and `RES1`. -/
def State.respond (s : State) (status : BitVec 16) (res0 : BitVec 64) (res1 : BitVec 32) : State :=
  { s with status := status, res0 := res0, res1 := res1 }

/-- R14, R190: the response of a command that succeeds. -/
def State.succeed (s : State) (res0 : BitVec 64) (res1 : BitVec 32) : State :=
  s.respond 0#16 res0 res1

/-- R191, R200: TAKING AN ERROR, the block's whole exception entry: `ERR` is the class, `CAUSE` and `VMASK` are 0,
`RES0` and `RES1` are 0, and no other state changes. Nothing is saved and control goes nowhere (R200), so there is no
return from it either: the next command overwrites the response (R201). -/
def State.fail (s : State) (cls : ErrClass) : State :=
  s.respond (statusWord 0#8 0#4 cls.code) 0#64 0#32

/-! ## Counters -/

/-- R8: `sat32(v) = min(v, 0xFFFFFFFF)`. -/
def sat32 (v : Nat) : BitVec 32 := BitVec.ofNat 32 (min v 0xFFFFFFFF)

/-- R23: every increment of a statistics counter is `c <- sat32(c + k)`. -/
def satAdd (c : BitVec 32) (k : Nat) : BitVec 32 := sat32 (c.toNat + k)

/-! ## The output trace -/

/-- R205: the number of a diagnostic. -/
def diagNumber : DiagCode → Nat
  | .frameGap => 1
  | .protoStartWithPending => 2
  | .protoContWithoutPending => 3
  | .firstFrameContinuation => 4
  | .packetIncomplete => 5
  | .idleFill => 6
  | .endIncomplete => 7

/-- R206: the number of a severity. -/
def severityNumber : Severity → Nat
  | .informational => 0
  | .warning => 1
  | .error => 2

/-- R206: `DIAG_SEV`; the severity of `FIRST_FRAME_CONTINUATION` is fixed, the others are parameters. -/
def diagSeverity (p : Params) : DiagCode → Severity
  | .frameGap => p.sevFrameGap
  | .protoStartWithPending => p.sevStartWithPending
  | .protoContWithoutPending => p.sevContWithoutPending
  | .firstFrameContinuation => .informational
  | .packetIncomplete => p.sevPacketIncomplete
  | .idleFill => p.sevIdleFill
  | .endIncomplete => p.sevEndIncomplete

/-- R8, R205: `diag(code, arg0, arg1, preview)`, an event with the severity of its code. -/
def diagEvent (p : Params) (code : DiagCode) (arg0 arg1 : Nat) (preview : List Byte) : Event :=
  .diag code (diagSeverity p code) (BitVec.ofNat 32 arg0) (BitVec.ofNat 32 arg1) preview

/-- R8, R176: `emit(bytes, reconstructed)`, an event whose `len` is the number of its bytes. -/
def emitEvent (bytes : List Byte) (reconstructed : Bool) : Event :=
  .emit bytes bytes.length reconstructed

/-- Whether an event is a packet. -/
def Event.isEmit : Event → Bool
  | .emit _ _ _ => true
  | .diag _ _ _ _ _ => false

/-- Whether an event is a diagnostic. -/
def Event.isDiag : Event → Bool
  | .emit _ _ _ => false
  | .diag _ _ _ _ _ => true

/-- R151, R178: the end of X.ADD and of X.END: the command's events are appended to `OUT` in order, `RES0` is the number
of packets among them and `RES1` the number of diagnostics. -/
def State.commit (s : State) (events : List Event) : State :=
  ({ s with out := s.out ++ events }).succeed (BitVec.ofNat 64 (events.countP Event.isEmit))
    (BitVec.ofNat 32 (events.countP Event.isDiag))

/-! ## The reassembly buffer -/

/-- R10, R20: `RB_LEN`, the number of bytes in the reassembly buffer. -/
def State.rbLen (s : State) : Nat := s.rb.length

/-- R8: `clear RB` sets `RB_PRESENT <- 0` and `RB_LEN <- 0`. -/
def State.clearRb (s : State) : State := { s with rbPresent := false, rb := [] }

/-- R167, R171: a fresh reassembly buffer holding the bytes given. -/
def State.freshRb (s : State) (bytes : List Byte) : State := { s with rbPresent := true, rb := bytes }

/-- R161: `RB.append(bytes)`. -/
def State.appendRb (s : State) (bytes : List Byte) : State := { s with rb := s.rb ++ bytes }

/-- R209: every loss adds exactly 1 to `PACKETS_LOST`. -/
def State.losePacket (s : State) : State := { s with packetsLost := satAdd s.packetsLost 1 }

end Sys2Proof.Machine
end

