-- ==== Sys2Proof/Machine/Operands.lean ====
section
/-! DEFINITION. How a command reads its operand `IBUF[0..ILEN)`: big-endian integers (spec/00_scope.md R8, spec/20_memory.md R44),
the fields of a Transfer Frame (spec/30_encoding.md R60 to R64) and of a Space Packet (R65 to R71), and the checks of the view
constructors (spec/41_frameview.md R101, spec/42_packetview.md R121). -/

namespace Sys2Proof.Machine

/-- R8, R44: `BE(B, i, n)`, the byte at the lowest offset the most significant. -/
def be (B : View) (i : Nat) : Nat → Nat
  | 0 => 0
  | n + 1 => be B i n * 256 + (B (i + n)).toNat

/-- R8: the bytes `B[i..i+n)`. -/
def run (B : View) (i : Nat) : Nat → List Byte
  | 0 => []
  | n + 1 => B i :: run B (i + 1) n

/-- The byte array that starts at offset `i` of another (R65: a packet inside a data zone). -/
def shiftView (B : View) (i : Nat) : View := fun j => B (i + j)

/-- A list of bytes as an operand (R65: `RB` as a packet). No rule reads it at or past its length. -/
def listView (l : List Byte) : View := fun j => l.getD j 0#8

/-- R10: the number `ILEN`. -/
def State.len (s : State) : Nat := s.ilen.toNat

/-- R101: the FrameView constructor's check. -/
abbrev State.frameOk (s : State) : Prop := 7 ≤ s.len ∧ s.len ≤ 65535 ∧ s.len ≤ s.params.ibufCap

/-- R121: the PacketView constructor's check. -/
abbrev State.packetOk (s : State) : Prop := 7 ≤ s.len ∧ s.len ≤ s.params.ibufCap

/-! ## Transfer Frame fields -/

/-- R61: `version = F[0][7:6]`. -/
def frameVersion (F : View) : BitVec 2 := (F 0).extractLsb' 6 2

/-- R61: `scid = F[0][5:0] ++ F[1][7:4]`. -/
def frameScid (F : View) : BitVec 10 := (F 0).extractLsb' 0 6 ++ (F 1).extractLsb' 4 4

/-- R61: `vcid = F[1][3:1]`. -/
def frameVcid (F : View) : BitVec 3 := (F 1).extractLsb' 1 3

/-- R61: `ocf = F[1][0]`. -/
def frameOcf (F : View) : BitVec 1 := (F 1).extractLsb' 0 1

/-- R62: `mcfc = F[2]`. -/
def frameMcfc (F : View) : BitVec 8 := F 2

/-- R62: `vcfc = F[3]`. -/
def frameVcfc (F : View) : BitVec 8 := F 3

/-- R63: `sechdr = F[4][7]`. -/
def frameSechdr (F : View) : BitVec 1 := (F 4).extractLsb' 7 1

/-- R63: `sync = F[4][6]`. -/
def frameSync (F : View) : BitVec 1 := (F 4).extractLsb' 6 1

/-- R63: `order = F[4][5]`. -/
def frameOrder (F : View) : BitVec 1 := (F 4).extractLsb' 5 1

/-- R63: `seglen = F[4][4:3]`. -/
def frameSeglen (F : View) : BitVec 2 := (F 4).extractLsb' 3 2

/-- R63: `fhp = F[4][2:0] ++ F[5]`. -/
def frameFhp (F : View) : BitVec 11 := (F 4).extractLsb' 0 3 ++ F 5

/-- R64: `hdr = 10 + 4 * ocf`, the frame bytes that are not data. -/
def frameHdr (F : View) : Nat := 10 + 4 * (frameOcf F).toNat

/-- R75: `IDLE_DATA`. -/
def fhpIdleData : BitVec 11 := 0x7FE#11

/-- R75: `NO_PACKET_START`. -/
def fhpNoPacketStart : BitVec 11 := 0x7FF#11

/-! ## Space Packet fields -/

/-- R66: `pver = P[0][7:5]`. -/
def packetVersion (P : View) : BitVec 3 := (P 0).extractLsb' 5 3

/-- R66: `ptype = P[0][4]`. -/
def packetType (P : View) : BitVec 1 := (P 0).extractLsb' 4 1

/-- R66: `dfhflag = P[0][3]`. -/
def packetDfhFlag (P : View) : BitVec 1 := (P 0).extractLsb' 3 1

/-- R66: `apid = P[0][2:0] ++ P[1]`. -/
def packetApid (P : View) : BitVec 11 := (P 0).extractLsb' 0 3 ++ P 1

/-- R67: `segflags = P[2][7:6]`. -/
def packetSegFlags (P : View) : BitVec 2 := (P 2).extractLsb' 6 2

/-- R67: `seq = P[2][5:0] ++ P[3]`. -/
def packetSeq (P : View) : BitVec 14 := (P 2).extractLsb' 0 6 ++ P 3

/-- R69: `plen = plenfield + 7`, 7 to 65542, no wrap; R68: `plenfield = BE16(P, 4)`. -/
def packetLength (P : View) : Nat := be P 4 2 + 7

/-- R131: the onboard time: the 8 bytes that start 2 bytes before it, masked to 48 bits. -/
def packetTime (P : View) (timeOff : Nat) : BitVec 64 :=
  BitVec.ofNat 64 (be P (timeOff - 2) 8) &&& 0x0000FFFFFFFFFFFF#64

/-- R71: `pec = BE16(P, plen - 2)`. -/
def packetPec (P : View) (plen : Nat) : Nat := be P (plen - 2) 2

end Sys2Proof.Machine
end

