-- ==== Sys2Proof/Machine/Extractor.lean ====
section
/-! DEFINITION. The PacketExtractor commands (spec/44_extractor.md R150 to R186): X.ADD by its steps, R152 to R171, as R173
puts them together; X.END; the four counter reads. -/

namespace Sys2Proof.Machine

/-- What X.ADD holds while it runs (R151, R157): the extractor's registers in `st`, its locals, and the events it has
produced so far, which `State.commit` appends to `OUT` at its end. -/
structure AddWork where
  /-- The state, whose extractor registers X.ADD writes. -/
  st : State
  /-- `first`: no frame was accepted before (R155). -/
  first : Bool
  /-- `gap`: the frame follows a gap (R155). -/
  gap : Bool
  /-- `pos`: the offset in the frame of the next unconsumed data byte (R157). -/
  pos : Nat
  /-- `rem`: the number of unconsumed data bytes (R157). -/
  rem : Nat
  /-- The events of this command, oldest first. -/
  events : List Event
  deriving DecidableEq, Repr

/-! ## The operations of its pseudocode -/

/-- R8: `diag(code, arg0, arg1)`. -/
def AddWork.diag (w : AddWork) (code : DiagCode) (arg0 arg1 : Nat) : AddWork :=
  { w with events := w.events ++ [diagEvent w.st.params code arg0 arg1 []] }

/-- R163, R170, R176: `emit(bytes, reconstructed)` and the increment of `PACKETS_EXTRACTED` that goes with it. -/
def AddWork.emit (w : AddWork) (bytes : List Byte) (reconstructed : Bool) : AddWork :=
  { w with
    st := { w.st with packetsExtracted := satAdd w.st.packetsExtracted 1 }
    events := w.events ++ [emitEvent bytes reconstructed] }

/-- `PACKETS_LOST <- sat32(PACKETS_LOST + 1)` (R209). -/
def AddWork.lose (w : AddWork) : AddWork := { w with st := w.st.losePacket }

/-- `clear RB` (R8). -/
def AddWork.clear (w : AddWork) : AddWork := { w with st := w.st.clearRb }

/-- `RB <- bytes ; RB_PRESENT <- 1` (R167, R171). -/
def AddWork.fresh (w : AddWork) (bytes : List Byte) : AddWork := { w with st := w.st.freshRb bytes }

/-- `pos <- pos + n ; rem <- rem - n`. -/
def AddWork.skip (w : AddWork) (n : Nat) : AddWork := { w with pos := w.pos + n, rem := w.rem - n }

/-! ## Step 2 (R155): counting and continuity -/

/-- R155: what a frame after the first does: `missed` frames are counted, the frame is marked gap-following, and a
pending packet is lost. -/
def addContinuity (ctr : BitVec 8) (w : AddWork) : AddWork :=
  let missed := ctr - w.st.expected
  if missed = 0#8 then w
  else
    let w := { w with
      st := { w.st with framesMissing := satAdd w.st.framesMissing missed.toNat }
      gap := true }
    let w := w.diag .frameGap missed.toNat (if w.st.rbPresent then 1 else 0)
    if w.st.rbPresent then w.clear.lose else w

/-- R155: step 2 of X.ADD. -/
def addCount (ctr : BitVec 8) (w : AddWork) : AddWork :=
  let w := { w with
    st := { w.st with framesProcessed := satAdd w.st.framesProcessed 1 }
    first := !w.st.started }
  let w := if w.first then { w with st := { w.st with started := true } } else addContinuity ctr w
  { w with st := { w.st with expected := ctr + 1#8 } }

/-! ## Step 5 (R158): the pending or continued packet -/

/-- R159: step 5a, a start at 0 while a packet is pending. -/
def addStartWithPending (w : AddWork) : AddWork :=
  let w := if w.gap then w else w.diag .protoStartWithPending w.st.rbLen 0
  w.clear.lose

/-- R160: step 5b, continuation bytes with nothing to continue (reading B: after a gap nothing is logged or counted). -/
def addContWithoutPending (fhp : BitVec 11) (w : AddWork) : AddWork :=
  let w :=
    if w.gap then w
    else if w.first then w.diag .firstFrameContinuation fhp.toNat 0
    else (w.diag .protoContWithoutPending fhp.toNat 0).lose
  w.skip (if fhp = fhpNoPacketStart then w.rem else fhp.toNat)

/-- R162 to R165: what follows the append of step 5c: the completion test, and the packet emitted, lost or kept. -/
def addComplete (fhp : BitVec 11) (w : AddWork) : AddWork :=
  let plen := packetLength (listView w.st.rb)
  if 7 ≤ w.st.rbLen ∧ plen ≤ w.st.rbLen then (w.emit (w.st.rb.take plen) true).clear
  else if fhp = fhpNoPacketStart then w
  else
    (w.diag .packetIncomplete w.st.rbLen (if 7 ≤ w.st.rbLen then plen - w.st.rbLen else 0xFFFFFFFF)).clear.lose

/-- R161 to R165: step 5c, the continuation of the pending packet. -/
def addContinue (F : ReadSite → View) (fhp : BitVec 11) (w : AddWork) : AddWork :=
  let n := if fhp = fhpNoPacketStart then w.rem else fhp.toNat
  let w := { w with st := w.st.appendRb (run (F .addAppend) w.pos n) }
  addComplete fhp (w.skip n)

/-- R158: step 5 takes at most one of its three branches. -/
def addResolve (F : ReadSite → View) (fhp : BitVec 11) (w : AddWork) : AddWork :=
  if fhp = 0#11 ∧ w.st.rbPresent = true then addStartWithPending w
  else if fhp ≠ 0#11 ∧ w.st.rbPresent = false then addContWithoutPending fhp w
  else if w.st.rbPresent = true then addContinue F fhp w
  else w

/-! ## Step 6 (R166): new packets -/

/-- R166 to R171: the loop of step 6, one turn for each unit of `fuel`. A turn stops or consumes at least 7 bytes, so
`fuel = rem` never runs out (R172; notes/assumptions/14.md). -/
def addPackets (F : ReadSite → View) : Nat → AddWork → AddWork
  | 0, w => w
  | fuel + 1, w =>
    if w.rem = 0 then w
    else if w.rem < 7 then w.fresh (run (F .addTail) w.pos w.rem)
    else
      let plen := packetLength (shiftView (F .addPeek) w.pos)
      if plen = 7 ∧ be (F .addIdle) (w.pos + 5) 2 = 0 then w.diag .idleFill (w.pos - 10) w.rem
      else if plen ≤ w.rem then
        addPackets F fuel ((w.emit (run (F .addPacket) w.pos plen) false).skip plen)
      else w.fresh (run (F .addTail) w.pos w.rem)

/-! ## X.ADD (R173) -/

/-- R157: the work of X.ADD as it begins, the data cursor at the data zone. -/
def addBegin (s : State) (dataLength : Nat) : AddWork where
  st := s
  first := false
  gap := false
  pos := 10
  rem := dataLength
  events := []

/-- R155 to R171: X.ADD on a frame that has passed its pre-checks. Step 3 (R156): an idle frame ends after step 2. -/
def addAccepted (s : State) (ctr : BitVec 8) (fhp : BitVec 11) (dataLength : Nat) : AddWork :=
  let w := addCount ctr (addBegin s dataLength)
  if fhp = fhpIdleData then w
  else
    let w := addResolve s.view fhp w
    addPackets s.view w.rem w

/-- R154: the two data-zone checks, which an idle frame does not need. -/
abbrev addOutOfBounds (len hdr : Nat) (fhp : BitVec 11) : Prop :=
  fhp ≠ fhpIdleData ∧ (len < hdr ∨ (fhp ≠ fhpNoPacketStart ∧ len - hdr < fhp.toNat))

/-- R151, R173: X.ADD. The four pre-checks change nothing (R152). -/
def execXAdd (s : State) : Result :=
  let fhp := frameFhp (s.view .addFhp)
  let hdr := frameHdr (s.view .addOcf)
  if s.frameOk then
    if frameVcid (s.view .addVcid) ≠ s.cfgVcid then .next (s.fail .wrongChannel)
    else if addOutOfBounds s.len hdr fhp then .next (s.fail .outOfBounds)
    else
      let w := addAccepted s (frameVcfc (s.view .addCounter)) fhp (s.len - hdr)
      .next (w.st.commit w.events)
  else .next (s.fail .invalidArgument)

/-! ## X.END (R178) -/

/-- R178, R78: a pending buffer that counts no loss: all zero, or the start of an idle packet, as byte patterns. -/
def rbBenign (rb : List Byte) : Bool :=
  rb.all (· == 0#8) || (listView rb 0 == 0x07#8 && (decide (rb.length < 2) || listView rb 1 == 0xFF#8))

/-- R178, R179: X.END. It reads neither `IBUF` nor `ILEN`, and clears the buffer in every case. -/
def execXEnd (s : State) : Result :=
  if s.rbPresent = false then .next (s.commit [])
  else if rbBenign s.rb then .next (s.clearRb.commit [])
  else
    .next (s.clearRb.losePacket.commit
      [diagEvent s.params .endIncomplete s.rbLen 0 (s.rb.take (min s.rbLen s.params.previewBytes))])

/-! ## Counter reads -/

/-- R181: X.NPROC. -/
def execXNproc (s : State) : Result := .next (s.succeed (s.framesProcessed.setWidth 64) 0#32)

/-- R182: X.NEXTR. -/
def execXNextr (s : State) : Result := .next (s.succeed (s.packetsExtracted.setWidth 64) 0#32)

/-- R183: X.NMISS. -/
def execXNmiss (s : State) : Result := .next (s.succeed (s.framesMissing.setWidth 64) 0#32)

/-- R184: X.NLOST. -/
def execXNlost (s : State) : Result := .next (s.succeed (s.packetsLost.setWidth 64) 0#32)

end Sys2Proof.Machine
end

