-- ==== Sys2Proof/Machine/FieldReader.lean ====
section
/-! DEFINITION. The FieldReader commands (spec/40_fieldreader.md R90 to R98). -/

namespace Sys2Proof.Machine

/-- R93: FR.RDn. A reader must exist (D5) and the bytes must lie below `ILEN` (R92); the cursor moves past them. -/
def fieldRead (n : Nat) (s : State) : Result :=
  if s.params.ibufCap < s.len then .next (s.fail .invalidArgument)
  else if s.frBound = false then .next (s.fail .invalidArgument)
  else if s.len < s.frCur.toNat + n then .next (s.fail .outOfBounds)
  else
    .next (({ s with frCur := BitVec.ofNat 32 (s.frCur.toNat + n) }).succeed
      (BitVec.ofNat 64 (be (s.view .field) s.frCur.toNat n)) 0#32)

/-- R91: FR.BIND. A failure leaves no reader, the one failing command that changes state (R191). -/
def execFrBind (s : State) : Result :=
  if s.len = 0 ∨ s.params.ibufCap < s.len then .next (({ s with frBound := false }).fail .invalidArgument)
  else .next (({ s with frBound := true, frCur := 0#32 }).succeed 0#64 0#32)

/-- R94: FR.RD1. -/
def execFrRd1 (s : State) : Result := fieldRead 1 s

/-- R95: FR.RD2. -/
def execFrRd2 (s : State) : Result := fieldRead 2 s

/-- R96: FR.RD4. -/
def execFrRd4 (s : State) : Result := fieldRead 4 s

/-- R97: FR.RD8. -/
def execFrRd8 (s : State) : Result := fieldRead 8 s

/-- R98: FR.OFS. It looks at neither `ILEN` nor `IBUF`. -/
def execFrOfs (s : State) : Result :=
  if s.frBound = false then .next (s.fail .invalidArgument)
  else .next (s.succeed (s.frCur.setWidth 64) 0#32)

end Sys2Proof.Machine
end

