-- ==== Sys2Proof/Machine/FrameView.lean ====
section
/-! DEFINITION. The FrameView commands (spec/41_frameview.md R100 to R111). -/

namespace Sys2Proof.Machine

/-- R101, R102: an accessor: the constructor check, then the decoded number in `RES0`. -/
def frameAccessor (s : State) (value : BitVec 64) : Result :=
  if s.frameOk then .next (s.succeed value 0#32) else .next (s.fail .invalidArgument)

/-- R103: the five frame validation rules, each with its bit; bits 5 to 7 are 0. -/
def frameViolations (s : State) : BitVec 8 :=
  violationMask
    (frameVersion (s.view .frVersion) != 0#2)
    (frameSechdr (s.view .frSechdr) != 1#1)
    (frameSync (s.view .frSync) != 0#1)
    (frameOrder (s.view .frOrder) != 0#1)
    (frameSeglen (s.view .frSeglen) != 3#2)
    false

/-- R104: FV.VALIDATE. -/
def execFvValidate (s : State) : Result :=
  if s.frameOk then .next (s.respond (validationStatus .malformedFrame (frameViolations s)) 0#64 0#32)
  else .next (s.fail .invalidArgument)

/-- R105: FV.SCID. -/
def execFvScid (s : State) : Result := frameAccessor s ((frameScid (s.view .field)).setWidth 64)

/-- R106: FV.VCID. -/
def execFvVcid (s : State) : Result := frameAccessor s ((frameVcid (s.view .field)).setWidth 64)

/-- R107: FV.MCFC. -/
def execFvMcfc (s : State) : Result := frameAccessor s ((frameMcfc (s.view .field)).setWidth 64)

/-- R108: FV.VCFC. -/
def execFvVcfc (s : State) : Result := frameAccessor s ((frameVcfc (s.view .field)).setWidth 64)

/-- R109: FV.OCF. -/
def execFvOcf (s : State) : Result := frameAccessor s ((frameOcf (s.view .field)).setWidth 64)

/-- R110: FV.FHP. The sentinels are returned as they are. -/
def execFvFhp (s : State) : Result := frameAccessor s ((frameFhp (s.view .field)).setWidth 64)

/-- R111: FV.DATA, the offset and the length of the data zone. -/
def execFvData (s : State) : Result :=
  if s.frameOk then
    if s.len < frameHdr (s.view .field) then .next (s.fail .outOfBounds)
    else .next (s.succeed 10#64 (BitVec.ofNat 32 (s.len - frameHdr (s.view .field))))
  else .next (s.fail .invalidArgument)

end Sys2Proof.Machine
end

