-- ==== Sys2Proof/Machine/PacketView.lean ====
section
/-! DEFINITION. The PacketView commands (spec/42_packetview.md R120 to R133). -/

namespace Sys2Proof.Machine

/-- R121, R122: an accessor that needs the first `bound` bytes of the buffer. -/
def packetAccessor (s : State) (bound : Nat) (value : BitVec 64) : Result :=
  if s.packetOk then
    if s.len < bound then .next (s.fail .outOfBounds) else .next (s.succeed value 0#32)
  else .next (s.fail .invalidArgument)

/-- R124: `plen` as PV.VALIDATE, PV.PEC and PV.PAYLOAD read it. -/
def State.plen (s : State) : Nat := packetLength (s.view .pkLength)

/-- R124: the computed CRC `c`, or 0 where the buffer does not hold the declared packet. -/
def State.computedCrc (s : State) : BitVec 16 :=
  if s.plen ≤ s.len then crc16 (run (s.view .pkCrcRun) 0 (s.plen - 2)) else 0#16

/-- R124: the read CRC `r`, or 0 where the buffer does not hold the declared packet. -/
def State.readCrc (s : State) : BitVec 16 :=
  if s.plen ≤ s.len then BitVec.ofNat 16 (packetPec (s.view .pkPec) s.plen) else 0#16

/-- R123: the six packet validation rules, each with its bit; `PK_CRC` is 0 where the CRC cannot be evaluated. -/
def packetViolations (s : State) : BitVec 8 :=
  violationMask
    (decide (s.len < s.plen))
    (packetVersion (s.view .pkVersion) != 0#3)
    (packetType (s.view .pkType) != 0#1)
    (packetDfhFlag (s.view .pkDfh) != 1#1)
    (packetSegFlags (s.view .pkSeg) != 3#2)
    (decide (s.plen ≤ s.len) && s.computedCrc != s.readCrc)

/-- R124: PV.VALIDATE. `RES0` and `RES1` carry the two CRC values, pass or fail. -/
def execPvValidate (s : State) : Result :=
  if s.packetOk then
    .next (s.respond (validationStatus .malformedPacket (packetViolations s)) (s.computedCrc.setWidth 64)
      (s.readCrc.setWidth 32))
  else .next (s.fail .invalidArgument)

/-- R125: PV.APID. The constructor check leaves its bytes in range. -/
def execPvApid (s : State) : Result := packetAccessor s 2 ((packetApid (s.view .field)).setWidth 64)

/-- R126: PV.SEQ. -/
def execPvSeq (s : State) : Result := packetAccessor s 4 ((packetSeq (s.view .field)).setWidth 64)

/-- R127: PV.LEN. -/
def execPvLen (s : State) : Result := packetAccessor s 6 (BitVec.ofNat 64 (packetLength (s.view .field)))

/-- R128: PV.STYPE. -/
def execPvStype (s : State) : Result :=
  packetAccessor s (s.params.dfhStypeOff + 1) ((s.view .field s.params.dfhStypeOff).setWidth 64)

/-- R129: PV.SSUB. -/
def execPvSsub (s : State) : Result :=
  packetAccessor s (s.params.dfhSsubOff + 1) ((s.view .field s.params.dfhSsubOff).setWidth 64)

/-- R130: PV.DEST. -/
def execPvDest (s : State) : Result :=
  packetAccessor s (s.params.dfhDestOff + 1) ((s.view .field s.params.dfhDestOff).setWidth 64)

/-- R131: PV.TIME. -/
def execPvTime (s : State) : Result :=
  packetAccessor s (s.params.dfhTimeOff + 6) (packetTime (s.view .field) s.params.dfhTimeOff)

/-- R132: PV.PEC, the trailer as stored. -/
def execPvPec (s : State) : Result :=
  packetAccessor s s.plen (BitVec.ofNat 64 (packetPec (s.view .pkPec) s.plen))

/-- R133: PV.PAYLOAD, the offset and the length of the payload. -/
def execPvPayload (s : State) : Result :=
  if s.packetOk then
    if s.plen < 18 ∨ s.len < s.plen then .next (s.fail .outOfBounds)
    else .next (s.succeed 16#64 (BitVec.ofNat 32 (s.plen - 18)))
  else .next (s.fail .invalidArgument)

end Sys2Proof.Machine
end

