-- ==== Sys2Proof/Machine/Dispatch.lean ====
section
/-! DEFINITION. The meaning of every command, one arm for each (spec/30_encoding.md R72). -/

namespace Sys2Proof.Machine

def exec (i : Instr) (s : State) : Host.Outcome State Fault Refusal :=
  match i with
  | .frBind => Sys2Proof.Machine.execFrBind s
  | .frRd1 => Sys2Proof.Machine.execFrRd1 s
  | .frRd2 => Sys2Proof.Machine.execFrRd2 s
  | .frRd4 => Sys2Proof.Machine.execFrRd4 s
  | .frRd8 => Sys2Proof.Machine.execFrRd8 s
  | .frOfs => Sys2Proof.Machine.execFrOfs s
  | .fvValidate => Sys2Proof.Machine.execFvValidate s
  | .fvScid => Sys2Proof.Machine.execFvScid s
  | .fvVcid => Sys2Proof.Machine.execFvVcid s
  | .fvMcfc => Sys2Proof.Machine.execFvMcfc s
  | .fvVcfc => Sys2Proof.Machine.execFvVcfc s
  | .fvOcf => Sys2Proof.Machine.execFvOcf s
  | .fvFhp => Sys2Proof.Machine.execFvFhp s
  | .fvData => Sys2Proof.Machine.execFvData s
  | .pvValidate => Sys2Proof.Machine.execPvValidate s
  | .pvApid => Sys2Proof.Machine.execPvApid s
  | .pvSeq => Sys2Proof.Machine.execPvSeq s
  | .pvLen => Sys2Proof.Machine.execPvLen s
  | .pvStype => Sys2Proof.Machine.execPvStype s
  | .pvSsub => Sys2Proof.Machine.execPvSsub s
  | .pvDest => Sys2Proof.Machine.execPvDest s
  | .pvTime => Sys2Proof.Machine.execPvTime s
  | .pvPec => Sys2Proof.Machine.execPvPec s
  | .pvPayload => Sys2Proof.Machine.execPvPayload s
  | .crcCompute => Sys2Proof.Machine.execCrcCompute s
  | .xAdd => Sys2Proof.Machine.execXAdd s
  | .xEnd => Sys2Proof.Machine.execXEnd s
  | .xNproc => Sys2Proof.Machine.execXNproc s
  | .xNextr => Sys2Proof.Machine.execXNextr s
  | .xNmiss => Sys2Proof.Machine.execXNmiss s
  | .xNlost => Sys2Proof.Machine.execXNlost s

end Sys2Proof.Machine
end

