-- ==== Sys2Proof/WellFormed.lean ====
section
/-! DEFINITION. What is well-formed: a command (spec/30_encoding.md R73), an opcode (R72, R74), a host action
(spec/20_memory.md R40, spec/10_state.md R12) and the parameters of a run (spec/00_scope.md R6, spec/30_encoding.md R70). -/

namespace Sys2Proof

/-- R73: a command has no field besides its opcode, so there is no operand that could be ill-formed. -/
def Instr.wellFormed (_ : Instr) : Bool := true

/-- R73: `opcode[7:4]` selects the unit and `opcode[3:0]` the operation within it; R72 assigns operations 0 to 5 of
unit 0, 0 to 7 of unit 1, 0 to 9 of unit 2, 0 of unit 3 and 0 to 5 of unit 4, and nothing else (R74). -/
def opcodeAssigned (opcode : BitVec 8) : Bool :=
  let operation := (opcode.extractLsb' 0 4).toNat
  match (opcode.extractLsb' 4 4).toNat with
  | 0 => decide (operation ≤ 5)
  | 1 => decide (operation ≤ 7)
  | 2 => decide (operation ≤ 9)
  | 3 => decide (operation ≤ 0)
  | 4 => decide (operation ≤ 5)
  | _ => false

/-- R40: the host can write only the `IBUF_CAP` bytes that `IBUF` has; R10: `ILEN` has 32 bits. -/
def HostAction.wellFormed (p : Params) : HostAction → Bool
  | .reset _ => true
  | .load bytes => decide (bytes.length ≤ p.ibufCap) && decide (bytes.length < 2 ^ 32)
  | .writeIbuf offset _ => decide (offset < p.ibufCap)
  | .writeIlen _ => true
  | .command _ => true

/-- R6: `IBUF_CAP` must be at least 7. R70: the four named fields lie in the Data Field Header, offsets 6 to 15, the
onboard time taking 6 bytes. -/
def Params.wellFormed (p : Params) : Bool :=
  decide (7 ≤ p.ibufCap) &&
  decide (6 ≤ p.dfhStypeOff) && decide (p.dfhStypeOff ≤ 15) &&
  decide (6 ≤ p.dfhSsubOff) && decide (p.dfhSsubOff ≤ 15) &&
  decide (6 ≤ p.dfhDestOff) && decide (p.dfhDestOff ≤ 15) &&
  decide (6 ≤ p.dfhTimeOff) && decide (p.dfhTimeOff ≤ 10)

end Sys2Proof
end

