-- ==== Sys2Proof/Decode.lean ====
section
/-! DEFINITION. Decoding and encoding of command opcodes (spec/30_encoding.md R72, R73, R74). -/

namespace Sys2Proof

/-- Why an opcode is no command. -/
inductive DecodeError where
  /-- R74: the opcode is unassigned; the step answers it with the error class `BadOpcode` (R197). -/
  | badOpcode (opcode : BitVec 8)
  deriving DecidableEq, Repr

/-- R72: the command an opcode names; R74: every value outside the table is rejected. -/
def decode (opcode : BitVec 8) : Except DecodeError Instr :=
  match opcode.toNat with
  | 0x00 => .ok .frBind
  | 0x01 => .ok .frRd1
  | 0x02 => .ok .frRd2
  | 0x03 => .ok .frRd4
  | 0x04 => .ok .frRd8
  | 0x05 => .ok .frOfs
  | 0x10 => .ok .fvValidate
  | 0x11 => .ok .fvScid
  | 0x12 => .ok .fvVcid
  | 0x13 => .ok .fvMcfc
  | 0x14 => .ok .fvVcfc
  | 0x15 => .ok .fvOcf
  | 0x16 => .ok .fvFhp
  | 0x17 => .ok .fvData
  | 0x20 => .ok .pvValidate
  | 0x21 => .ok .pvApid
  | 0x22 => .ok .pvSeq
  | 0x23 => .ok .pvLen
  | 0x24 => .ok .pvStype
  | 0x25 => .ok .pvSsub
  | 0x26 => .ok .pvDest
  | 0x27 => .ok .pvTime
  | 0x28 => .ok .pvPec
  | 0x29 => .ok .pvPayload
  | 0x30 => .ok .crcCompute
  | 0x40 => .ok .xAdd
  | 0x41 => .ok .xEnd
  | 0x42 => .ok .xNproc
  | 0x43 => .ok .xNextr
  | 0x44 => .ok .xNmiss
  | 0x45 => .ok .xNlost
  | _ => .error (.badOpcode opcode)

/-- The instruction the decoder reads from an instruction whose bits are `w`, numbered as spec/opcode_table.json numbers
them, the bits from `nbits` up being 0. Every command is one byte (format `C8`, R73). -/
def decodeTableWord (nbits w : Nat) : Option Instr :=
  match decode (BitVec.ofNat 8 (w % 2 ^ nbits)) with
  | .ok i => some i
  | .error _ => none

/-- R73: the opcode of a command, `opcode[7:4]` its unit (0 FieldReader, 1 FrameView, 2 PacketView, 3 CRC16,
4 PacketExtractor) and `opcode[3:0]` its operation. -/
def encode : Instr → BitVec 8
  | .frBind => 0#4 ++ 0#4
  | .frRd1 => 0#4 ++ 1#4
  | .frRd2 => 0#4 ++ 2#4
  | .frRd4 => 0#4 ++ 3#4
  | .frRd8 => 0#4 ++ 4#4
  | .frOfs => 0#4 ++ 5#4
  | .fvValidate => 1#4 ++ 0#4
  | .fvScid => 1#4 ++ 1#4
  | .fvVcid => 1#4 ++ 2#4
  | .fvMcfc => 1#4 ++ 3#4
  | .fvVcfc => 1#4 ++ 4#4
  | .fvOcf => 1#4 ++ 5#4
  | .fvFhp => 1#4 ++ 6#4
  | .fvData => 1#4 ++ 7#4
  | .pvValidate => 2#4 ++ 0#4
  | .pvApid => 2#4 ++ 1#4
  | .pvSeq => 2#4 ++ 2#4
  | .pvLen => 2#4 ++ 3#4
  | .pvStype => 2#4 ++ 4#4
  | .pvSsub => 2#4 ++ 5#4
  | .pvDest => 2#4 ++ 6#4
  | .pvTime => 2#4 ++ 7#4
  | .pvPec => 2#4 ++ 8#4
  | .pvPayload => 2#4 ++ 9#4
  | .crcCompute => 3#4 ++ 0#4
  | .xAdd => 4#4 ++ 0#4
  | .xEnd => 4#4 ++ 1#4
  | .xNproc => 4#4 ++ 2#4
  | .xNextr => 4#4 ++ 3#4
  | .xNmiss => 4#4 ++ 4#4
  | .xNlost => 4#4 ++ 5#4

end Sys2Proof
end

