-- ==== Sys2Proof/Machine/HostActions.lean ====
section
/-! DEFINITION. What the host does to the block between commands (spec/30_encoding.md R79, spec/70_reset_and_hazards.md R220, R223),
and how an opcode comes to the command port. -/

namespace Sys2Proof.Machine

/-- The host's next action is taken (R7) and this step's draw of unwritten bytes is a fresh one (R53). -/
def State.takeAction (s : State) (rest : List HostAction) : State :=
  { s with host := rest, draws := s.draws + 1 }

/-- R220, R33: `RESET <vcid>`. The run's parameters, the host's further actions and the draw number are not the block's
state and stay (notes/assumptions/16.md). -/
def hostReset (s : State) (vcid : BitVec 3) : State :=
  { State.reset with cfgVcid := vcid, params := s.params, host := s.host, draws := s.draws }

/-- R79, R223: `LOAD <bytes>`, bytes first, then `ILEN`. Bytes of `IBUF` above them stay (notes/assumptions/19.md). -/
def hostLoad (s : State) (bytes : List Byte) : State :=
  { s with ibuf := Memory.writeRun s.ibuf 0 bytes, ilen := BitVec.ofNat 32 bytes.length }

/-- R40, R203: the host writes one byte of `IBUF`. -/
def hostWriteIbuf (s : State) (offset : Nat) (byte : Byte) : State :=
  { s with ibuf := Memory.write s.ibuf offset byte }

/-- R12, R203: the host writes `ILEN`. -/
def hostWriteIlen (s : State) (length : BitVec 32) : State := { s with ilen := length }

/-- R74, R197: the answer to an unassigned opcode. -/
def answerBadOpcode (s : State) : Result := .next (s.fail .badOpcode)

/-- The opcode byte that stands for an instruction's bits (R73): the bits from `nbits` up are 0. -/
def commandByte (nbits w : Nat) : BitVec 8 := BitVec.ofNat 8 (w % 2 ^ nbits)

end Sys2Proof.Machine
end

