-- ==== Sys2Proof/Machine/Step.lean ====
section
/-! DEFINITION. One step of the block: the host's next action (spec/00_scope.md R7). -/

namespace Sys2Proof.Machine

/-- R7: a command is decoded first (R199) and then run. -/
def issue (opcode : BitVec 8) (s : State) : Host.Outcome State Fault Refusal :=
  match decode opcode with
  | .ok i => exec i s
  | .error _ => answerBadOpcode s

/-- R7: one host action, taken from the front of `host`. With none to come nothing changes: the block never acts on its
own. A host write outside `IBUF` is a fault (notes/assumptions/11.md). -/
def step (s : State) : Host.Outcome State Fault Refusal :=
  match s.host with
  | [] => .next s
  | a :: rest =>
    if a.wellFormed s.params then
      match a with
      | .reset vcid => .next (hostReset (s.takeAction rest) vcid)
      | .load bytes => .next (hostLoad (s.takeAction rest) bytes)
      | .writeIbuf offset byte => .next (hostWriteIbuf (s.takeAction rest) offset byte)
      | .writeIlen length => .next (hostWriteIlen (s.takeAction rest) length)
      | .command opcode => issue opcode (s.takeAction rest)
    else .fault .hostWriteOutsideIbuf

/-- The state in which the very next step runs the instruction whose bits are `w`: its opcode is the host's next action
(notes/assumptions/1.md). -/
def State.withFetchWord (s : State) (nbits w : Nat) : State :=
  { s with host := .command (commandByte nbits w) :: s.host }

end Sys2Proof.Machine
end

