-- ==== Sys2Proof/Safety.lean ====
section
/-! DEFINITION. The predicates that statements about the block use: the host's duty, the invariants of the state, what a
command may touch, and the cutting of a data zone into packets as a relation. -/

namespace Sys2Proof.Machine

/-! ## The input buffer and the host's duty -/

/-- The host has written the byte of `IBUF` at this offset since reset (R53). -/
abbrev State.written (s : State) (offset : Nat) : Prop := (Memory.lookup s.ibuf offset).isSome = true

/-- R223: the host's duty before a command that takes a buffer: all `ILEN` bytes are written. -/
abbrev State.loaded (s : State) : Prop := ∀ offset < s.len, s.written offset

/-- The bytes of `IBUF` as the host wrote them (R41); where the host wrote none, no statement reads it. -/
def State.bytes (s : State) : View := fun offset => (Memory.lookup s.ibuf offset).getD 0#8

/-! ## Invariants -/

/-- R21: a buffer that is present is not empty, one that is absent is, and one that has shown its length field holds
fewer bytes than it declares. -/
abbrev State.rbInv (s : State) : Prop :=
  (s.rbPresent = true → 1 ≤ s.rbLen) ∧ (s.rbPresent = false → s.rbLen = 0) ∧
    (s.rbPresent = true → 7 ≤ s.rbLen → s.rbLen < packetLength (listView s.rb))

/-- `IBUF` is in its canonical form and lists no offset that it does not have (R40). -/
abbrev State.ibufInv (s : State) : Prop :=
  Memory.wf s.ibuf ∧ ∀ c ∈ s.ibuf, c.1 < s.params.ibufCap

/-- R13: `ERR` is at most 6; `CAUSE` and `VMASK` are 0 unless it is 3 or 4, and then `CAUSE` is the index of the lowest
set bit of `VMASK`; R103, R123: a frame has 5 rules and a packet 6. -/
abbrev statusForm (status : BitVec 16) : Prop :=
  (statusErr status).toNat ≤ 6 ∧
  (statusErr status ≠ 3#4 → statusErr status ≠ 4#4 → statusCause status = 0#4 ∧ statusVmask status = 0#8) ∧
  (statusErr status = 3#4 ∨ statusErr status = 4#4 →
    (statusVmask status).getLsbD (statusCause status).toNat = true ∧
      ∀ j < (statusCause status).toNat, (statusVmask status).getLsbD j = false) ∧
  (statusErr status = 3#4 → (statusVmask status).toNat < 32) ∧
  (statusErr status = 4#4 → (statusVmask status).toNat < 64)

/-- What holds between commands of every run whose host does its duty (R21, R13, R40, R6). -/
abbrev State.Inv (s : State) : Prop :=
  s.rbInv ∧ s.ibufInv ∧ statusForm s.status ∧ s.params.wellFormed = true

/-! ## What a command may touch -/

/-- The extractor's registers (R150) hold the same values in both states. -/
abbrev sameExtractor (s t : State) : Prop :=
  t.cfgVcid = s.cfgVcid ∧ t.started = s.started ∧ t.expected = s.expected ∧ t.rbPresent = s.rbPresent ∧ t.rb = s.rb ∧
    t.framesProcessed = s.framesProcessed ∧ t.packetsExtracted = s.packetsExtracted ∧
    t.framesMissing = s.framesMissing ∧ t.packetsLost = s.packetsLost

/-- The FieldReader's registers (R16) hold the same values in both states. -/
abbrev sameReader (s t : State) : Prop := t.frBound = s.frBound ∧ t.frCur = s.frCur

/-- What no command writes: `IBUF`, `ILEN` (R41, R203), `CFG_VCID` (R17), the run's parameters, the host's further
actions and the draw number. -/
abbrev sameInput (s t : State) : Prop :=
  t.ibuf = s.ibuf ∧ t.ilen = s.ilen ∧ t.cfgVcid = s.cfgVcid ∧ t.params = s.params ∧ t.host = s.host ∧ t.draws = s.draws

/-- The FieldReader commands (R90). -/
def fieldReaderCommands : List Instr := [.frBind, .frRd1, .frRd2, .frRd4, .frRd8, .frOfs]

/-- FR.RDn with its width `n` (R93). -/
def fieldReads : List (Nat × Instr) := [(1, .frRd1), (2, .frRd2), (4, .frRd4), (8, .frRd8)]

/-- The FrameView commands (R100). -/
def frameViewCommands : List Instr :=
  [.fvValidate, .fvScid, .fvVcid, .fvMcfc, .fvVcfc, .fvOcf, .fvFhp, .fvData]

/-- The PacketView commands (R120). -/
def packetViewCommands : List Instr :=
  [.pvValidate, .pvApid, .pvSeq, .pvLen, .pvStype, .pvSsub, .pvDest, .pvTime, .pvPec, .pvPayload]

/-- R72: the 31 opcodes of the table with their commands, as the table writes them. -/
def opcodeTable : List (BitVec 8 × Instr) :=
  [(0x00, .frBind), (0x01, .frRd1), (0x02, .frRd2), (0x03, .frRd4), (0x04, .frRd8), (0x05, .frOfs),
   (0x10, .fvValidate), (0x11, .fvScid), (0x12, .fvVcid), (0x13, .fvMcfc), (0x14, .fvVcfc), (0x15, .fvOcf),
   (0x16, .fvFhp), (0x17, .fvData),
   (0x20, .pvValidate), (0x21, .pvApid), (0x22, .pvSeq), (0x23, .pvLen), (0x24, .pvStype), (0x25, .pvSsub),
   (0x26, .pvDest), (0x27, .pvTime), (0x28, .pvPec), (0x29, .pvPayload),
   (0x30, .crcCompute),
   (0x40, .xAdd), (0x41, .xEnd), (0x42, .xNproc), (0x43, .xNextr), (0x44, .xNmiss), (0x45, .xNlost)]

/-- The commands that write nothing but the response (R50): FV.*, PV.*, CRC.COMPUTE, FR.OFS and the counter reads. -/
def readOnlyCommands : List Instr :=
  frameViewCommands ++ packetViewCommands ++ [.crcCompute, .frOfs, .xNproc, .xNextr, .xNmiss, .xNlost]

/-! ## When a command fails -/

/-- R192: the condition under which the command answers `InvalidArgument`. -/
def State.badArgument (s : State) : Instr → Prop
  | .frBind => s.len = 0 ∨ s.params.ibufCap < s.len
  | .frRd1 | .frRd2 | .frRd4 | .frRd8 => s.params.ibufCap < s.len ∨ s.frBound = false
  | .frOfs => s.frBound = false
  | .fvValidate | .fvScid | .fvVcid | .fvMcfc | .fvVcfc | .fvOcf | .fvFhp | .fvData | .xAdd =>
    s.len < 7 ∨ 65535 < s.len ∨ s.params.ibufCap < s.len
  | .pvValidate | .pvApid | .pvSeq | .pvLen | .pvStype | .pvSsub | .pvDest | .pvTime | .pvPec | .pvPayload =>
    s.len < 7 ∨ s.params.ibufCap < s.len
  | .crcCompute => s.params.ibufCap < s.len
  | .xEnd | .xNproc | .xNextr | .xNmiss | .xNlost => False

/-- R196: the condition under which a command whose argument is good answers `WrongChannel`. -/
def State.wrongChannel (s : State) (i : Instr) : Prop :=
  i = .xAdd ∧ frameVcid (s.view .addVcid) ≠ s.cfgVcid

/-- R193: the condition under which a command that passes the checks before it answers `OutOfBounds`. -/
def State.pastTheEnd (s : State) : Instr → Prop
  | .frRd1 => s.len < s.frCur.toNat + 1
  | .frRd2 => s.len < s.frCur.toNat + 2
  | .frRd4 => s.len < s.frCur.toNat + 4
  | .frRd8 => s.len < s.frCur.toNat + 8
  | .fvData => s.len < 10 + 4 * (frameOcf (s.view .field)).toNat
  | .pvStype => s.len < s.params.dfhStypeOff + 1
  | .pvSsub => s.len < s.params.dfhSsubOff + 1
  | .pvDest => s.len < s.params.dfhDestOff + 1
  | .pvTime => s.len < s.params.dfhTimeOff + 6
  | .pvPec => s.len < packetLength (s.view .pkLength)
  | .pvPayload => packetLength (s.view .pkLength) < 18 ∨ s.len < packetLength (s.view .pkLength)
  | .xAdd =>
    frameFhp (s.view .addFhp) ≠ 0x7FE#11 ∧
      (s.len < 10 + 4 * (frameOcf (s.view .addOcf)).toNat ∨
        ((frameFhp (s.view .addFhp)).toNat ≤ 0x7FD ∧
          s.len - (10 + 4 * (frameOcf (s.view .addOcf)).toNat) < (frameFhp (s.view .addFhp)).toNat))
  | .frBind | .frOfs | .fvValidate | .fvScid | .fvVcid | .fvMcfc | .fvVcfc | .fvOcf | .fvFhp | .pvValidate | .pvApid
  | .pvSeq | .pvLen | .crcCompute | .xEnd | .xNproc | .xNextr | .xNmiss | .xNlost => False

/-! ## X.ADD -/

/-- R152: the frame in `IBUF` passes X.ADD's four pre-checks. -/
abbrev State.addAccepts (s : State) : Prop :=
  s.frameOk ∧ frameVcid (s.view .addVcid) = s.cfgVcid ∧
    ¬ addOutOfBounds s.len (frameHdr (s.view .addOcf)) (frameFhp (s.view .addFhp))

/-- R155: `missed`, for a frame after the first; 0 for the first. -/
def State.missed (s : State) : BitVec 8 :=
  if s.started then frameVcfc (s.view .addCounter) - s.expected else 0#8

/-- R155: the event of a gap. -/
def State.gapEvents (s : State) : List Event :=
  if s.missed = 0#8 then []
  else [diagEvent s.params .frameGap s.missed.toNat (if s.rbPresent then 1 else 0) []]

/-- R155, R209 (1): what a gap adds to `PACKETS_LOST`. -/
def State.gapLost (s : State) : Nat := if s.missed ≠ 0#8 ∧ s.rbPresent = true then 1 else 0

/-- R155: whether a packet is pending once step 2 is done: a gap discards it. -/
def State.stillPending (s : State) : Bool := s.rbPresent && s.missed == 0#8

/-- The first header pointer X.ADD decodes at entry (R151). -/
def State.fhp (s : State) : BitVec 11 := frameFhp (s.view .addFhp)

/-- R223 (2), R234: the part of the host's duty that an invariant needs (notes/assumptions/20.md): before an X.ADD whose frame
passes its pre-checks and is not idle, all `ILEN` bytes are written. Before any other step nothing is asked: no other
command copies bytes of `IBUF` into the extractor, a rejected frame changes nothing (R152), and the data zone of an idle
frame is not read (R156). -/
def State.hostDuty (s : State) : Prop :=
  ∀ rest, s.host = .command (encode .xAdd) :: rest → (s.takeAction rest).addAccepts →
    (s.takeAction rest).fhp ≠ fhpIdleData → s.loaded

/-- `L - hdr`, the length of the data zone of X.ADD's frame (R64, R157). -/
def State.zoneLength (s : State) : Nat := s.len - frameHdr (s.view .addOcf)

/-- R158, R160, R161: how many bytes of the data zone belong to an earlier packet. -/
def State.continuation (s : State) : Nat := if s.fhp = fhpNoPacketStart then s.zoneLength else s.fhp.toNat

/-- R161: the reassembly buffer after the append of step 5c. -/
def State.joinedRb (s : State) : List Byte := s.rb ++ run (s.view .addAppend) 10 s.continuation

/-- R162: whether the joined buffer holds a complete packet. -/
def State.joinedComplete (s : State) : Bool :=
  decide (7 ≤ s.joinedRb.length) && decide (packetLength (listView s.joinedRb) ≤ s.joinedRb.length)

/-- What an accepted X.ADD leaves, given the events it produced, the number of packets it lost and what it left pending
(R151, R155, R173): every other register as before. -/
def State.addResult (s : State) (events : List Event) (lost : Nat) (pending : Option (List Byte)) : State :=
  { s with
    framesProcessed := satAdd s.framesProcessed 1
    started := true
    framesMissing := satAdd s.framesMissing s.missed.toNat
    expected := frameVcfc (s.view .addCounter) + 1#8
    packetsExtracted := satAdd s.packetsExtracted (events.countP Event.isEmit)
    packetsLost := satAdd s.packetsLost lost
    rbPresent := pending.isSome
    rb := pending.getD []
    out := s.out ++ events
    status := 0#16
    res0 := BitVec.ofNat 64 (events.countP Event.isEmit)
    res1 := BitVec.ofNat 32 (events.countP Event.isDiag) }

/-- R30, R176: the event of a packet carries as many bytes as it says, and as many as the packet declares. -/
def Event.whole : Event → Prop
  | .emit bytes len _ => bytes.length = len ∧ len = packetLength (listView bytes)
  | .diag _ _ _ _ _ => True

/-- Whether an event is a packet that came out of the reassembly buffer (R9, R176). -/
def Event.isReconstructed : Event → Bool
  | .emit _ _ reconstructed => reconstructed
  | .diag _ _ _ _ _ => false

/-- R166 to R171 as a relation: the `rem` bytes of the data zone from `pos` on give these events and leave these bytes
pending (`none`: nothing). -/
inductive ZoneRun (F : ReadSite → View) (p : Params) : Nat → Nat → List Event → Option (List Byte) → Prop where
  /-- R166: with no byte left the loop ends. -/
  | done (pos : Nat) : ZoneRun F p pos 0 [] none
  /-- R167: fewer than 7 bytes are kept as they are. -/
  | short (pos rem : Nat) (h0 : 0 < rem) (h7 : rem < 7) :
      ZoneRun F p pos rem [] (some (run (F .addTail) pos rem))
  /-- R169: idle fill ends the frame. -/
  | idle (pos rem : Nat) (h7 : 7 ≤ rem) (hlen : packetLength (shiftView (F .addPeek) pos) = 7)
      (hcrc : be (F .addIdle) (pos + 5) 2 = 0) :
      ZoneRun F p pos rem [diagEvent p .idleFill (pos - 10) rem []] none
  /-- R170: a whole packet is emitted, and the loop goes on behind it. -/
  | packet (pos rem plen : Nat) (events : List Event) (pending : Option (List Byte)) (h7 : 7 ≤ rem)
      (hlen : packetLength (shiftView (F .addPeek) pos) = plen)
      (hidle : ¬ (plen = 7 ∧ be (F .addIdle) (pos + 5) 2 = 0)) (hfit : plen ≤ rem)
      (next : ZoneRun F p (pos + plen) (rem - plen) events pending) :
      ZoneRun F p pos rem (emitEvent (run (F .addPacket) pos plen) false :: events) pending
  /-- R171: a packet that does not finish is kept. -/
  | tail (pos rem : Nat) (h7 : 7 ≤ rem) (hlong : rem < packetLength (shiftView (F .addPeek) pos)) :
      ZoneRun F p pos rem [] (some (run (F .addTail) pos rem))

end Sys2Proof.Machine
end

