-- ==== Sys2Proof/Certificates/Slice0/Obligations.lean ====
section
/-! DEFINITION. The statements about the block that the provers settle. Each names the rules of spec/ it rests on; "log n" is
notes/assumptions/<n>.md. -/

open Sys2Proof Sys2Proof.Machine

/-! ## Decoding, and the step -/

/-- R72, R73: decoding the opcode of a command gives the command. -/
def Obligations.DecodeOfEncodeGivesTheCommand : Prop :=
  ∀ i : Instr, i.wellFormed = true → decode (encode i) = .ok i

/-- R72, R73: an opcode that decodes is the opcode of the command it decodes to, so no two opcodes name one command. -/
def Obligations.DecodedOpcodeIsTheCommandsOpcode : Prop :=
  ∀ (opcode : BitVec 8) (i : Instr), decode opcode = .ok i → encode i = opcode

/-- R72: every line of the command table decodes to its command; R73: what decodes is what the unit and operation ranges
assign. -/
def Obligations.CommandTableDecodes : Prop :=
  (∀ row ∈ opcodeTable, decode row.1 = .ok row.2) ∧
    ∀ opcode : BitVec 8, opcodeAssigned opcode = true ↔ ∃ i, decode opcode = .ok i

/-- R74, R197, R191: the 225 opcodes outside the table answer `BadOpcode`, `STATUS` 0x0006, and change nothing else. -/
def Obligations.UnassignedOpcodeAnswersBadOpcode : Prop :=
  opcodeTable.length = 31 ∧
  ((List.range 256).filter fun n => !(opcodeTable.map Prod.fst).contains (BitVec.ofNat 8 n)).length = 225 ∧
  ∀ (s : State) (opcode : BitVec 8) (rest : List HostAction),
    s.host = .command opcode :: rest → opcode ∉ opcodeTable.map Prod.fst →
    step s = .next { s with
      host := rest, draws := s.draws + 1, status := 0x0006#16, res0 := 0#64, res1 := 0#32 }

/-- R7, R73: when the host's next action is the opcode of a command, the step runs that command on the state from which
the action has been taken. -/
def Obligations.StepRunsTheDecodedCommand : Prop :=
  ∀ (s : State) (opcode : BitVec 8) (rest : List HostAction) (i : Instr),
    s.host = .command opcode :: rest → decode opcode = .ok i → i.wellFormed = true →
    step s = exec i { s with host := rest, draws := s.draws + 1 }

/-- R7: the block never acts on its own. -/
def Obligations.NothingHappensWithoutAHostAction : Prop :=
  ∀ s : State, s.host = [] → step s = .next s

/-- R52, R174, R201: no command stops the block; a step stops exactly on a host write outside `IBUF`, a move the spec does
not give the host (the model's choice, log 11). -/
def Obligations.OnlyAHostWriteOutsideIbufStops : Prop :=
  (∀ (i : Instr) (s : State), ∃ t, exec i s = .next t) ∧
  (∀ (s : State) (a : HostAction) (rest : List HostAction), s.host = a :: rest →
    a.wellFormed s.params = false → step s = .fault .hostWriteOutsideIbuf) ∧
  ∀ s : State, (∀ a rest, s.host = a :: rest → a.wellFormed s.params = true) → ∃ t, step s = .next t

/-! ## The host's actions and reset -/

/-- R33, R220: what the action `RESET <vcid>` leaves, from any state; `FR_CUR` and `EXPECTED`, which the spec leaves
unspecified, are not spoken of. -/
def Obligations.ResetActionLeavesTheReadyState : Prop :=
  ∀ (s : State) (vcid : BitVec 3) (rest : List HostAction), s.host = .reset vcid :: rest →
    ∃ t, step s = .next t ∧ t.ilen = 0#32 ∧ t.status = 0#16 ∧ t.res0 = 0#64 ∧ t.res1 = 0#32 ∧ t.frBound = false ∧
      t.cfgVcid = vcid ∧ t.started = false ∧ t.rbPresent = false ∧ t.rbLen = 0 ∧ t.framesProcessed = 0#32 ∧
      t.packetsExtracted = 0#32 ∧ t.framesMissing = 0#32 ∧ t.packetsLost = 0#32 ∧ t.out = [] ∧
      ∀ offset, ¬ t.written offset

/-- R33, R21, R13, R6: the state after reset meets the invariant. -/
def Obligations.ResetStateMeetsTheInvariant : Prop := State.reset.Inv

/-- R222, which the spec derives from R33 and the command rules: what each command does straight after reset, before any LOAD, whatever the values the spec leaves unspecified
and whatever `VCID`. -/
def Obligations.CommandsStraightAfterReset : Prop :=
  ∀ (s0 : State) (vcid : BitVec 3) (cursor : BitVec 32) (counter : BitVec 8) (s : State),
    s = { hostReset s0 vcid with frCur := cursor, expected := counter } →
    (∀ i ∈ frameViewCommands ++ packetViewCommands ++
        [.frBind, .frRd1, .frRd2, .frRd4, .frRd8, .frOfs, .xAdd],
      exec i s = .next { s with status := 0x0001#16, res0 := 0#64, res1 := 0#32 }) ∧
    exec .crcCompute s = .next { s with status := 0#16, res0 := 0xFFFF#64, res1 := 0#32 } ∧
    ∀ i ∈ [Instr.xEnd, .xNproc, .xNextr, .xNmiss, .xNlost],
      exec i s = .next { s with status := 0#16, res0 := 0#64, res1 := 0#32 }

/-- R79, R223: LOAD writes its bytes to `IBUF[0..n)` and `n` to `ILEN`, and nothing else of the block. That the bytes above
them stay is the model's reading (log 19). -/
def Obligations.LoadWritesBufferAndLength : Prop :=
  ∀ (s : State) (bytes : List Byte) (rest : List HostAction), s.host = .load bytes :: rest →
    bytes.length ≤ s.params.ibufCap → bytes.length < 2 ^ 32 →
    ∃ m, step s = .next { s with
        host := rest, draws := s.draws + 1, ibuf := m, ilen := BitVec.ofNat 32 bytes.length } ∧
      ∀ offset, Memory.lookup m offset =
        if offset < bytes.length then bytes[offset]? else Memory.lookup s.ibuf offset

/-- R12, R40, R203: the host's write of one byte of `IBUF` changes that byte alone, its write of `ILEN` changes `ILEN`
alone. -/
def Obligations.HostWritesChangeWhatTheyName : Prop :=
  (∀ (s : State) (offset : Nat) (b : Byte) (rest : List HostAction), s.host = .writeIbuf offset b :: rest →
    offset < s.params.ibufCap →
    ∃ m, step s = .next { s with host := rest, draws := s.draws + 1, ibuf := m } ∧
      Memory.lookup m offset = some b ∧ ∀ o, o ≠ offset → Memory.lookup m o = Memory.lookup s.ibuf o) ∧
  ∀ (s : State) (n : BitVec 32) (rest : List HostAction), s.host = .writeIlen n :: rest →
    step s = .next { s with host := rest, draws := s.draws + 1, ilen := n }

/-- R53: a read gives the byte the host wrote; where it wrote none it gives the draw of this step, this read and this
offset, and every step that takes a host action makes the next draw (the form of the draw is the model's choice,
log 2). -/
def Obligations.UnwrittenBytesAreDrawnAfresh : Prop :=
  (∀ (s : State) (r : ReadSite) (offset : Nat) (b : Byte),
    Memory.lookup s.ibuf offset = some b → s.view r offset = b) ∧
  (∀ (s : State) (r : ReadSite) (offset : Nat),
    Memory.lookup s.ibuf offset = none → s.view r offset = Config.unwrittenByte s.draws r offset) ∧
  ∀ (s t : State) (a : HostAction) (rest : List HostAction), s.host = a :: rest → step s = .next t →
    t.draws = s.draws + 1 ∧ t.host = rest

/-! ## FieldReader -/

/-- R91: FR.BIND constructs a reader with its cursor at 0, or fails on an empty or too long buffer and leaves none. -/
def Obligations.FrBindConstructsAReader : Prop :=
  ∀ s : State,
    (s.ilen = 0#32 ∨ s.params.ibufCap < s.ilen.toNat →
      exec .frBind s = .next { s with frBound := false, status := 0x0001#16, res0 := 0#64, res1 := 0#32 }) ∧
    (s.ilen ≠ 0#32 → s.ilen.toNat ≤ s.params.ibufCap →
      exec .frBind s = .next { s with
        frBound := true, frCur := 0#32, status := 0#16, res0 := 0#64, res1 := 0#32 })

/-- R92 to R97: FR.RDn. With no reader, or with an `ILEN` above `IBUF_CAP`, and then past `ILEN`, it fails and changes the
response only; in range it returns the `n` bytes at the cursor as a big-endian number and moves the cursor by `n`. -/
def Obligations.FieldReadsReturnBigEndianNumbers : Prop :=
  ∀ (s : State) (c : Nat) (B : Nat → Nat), c = s.frCur.toNat → (∀ k, B k = (s.view .field (c + k)).toNat) →
    (∀ p ∈ fieldReads,
      (s.params.ibufCap < s.ilen.toNat ∨ s.frBound = false →
        exec p.2 s = .next { s with status := 0x0001#16, res0 := 0#64, res1 := 0#32 }) ∧
      (s.ilen.toNat ≤ s.params.ibufCap → s.frBound = true → s.ilen.toNat < c + p.1 →
        exec p.2 s = .next { s with status := 0x0002#16, res0 := 0#64, res1 := 0#32 })) ∧
    (s.ilen.toNat ≤ s.params.ibufCap → s.frBound = true →
      (c + 1 ≤ s.ilen.toNat → exec .frRd1 s = .next { s with
        frCur := s.frCur + 1#32, status := 0#16, res1 := 0#32, res0 := BitVec.ofNat 64 (B 0) }) ∧
      (c + 2 ≤ s.ilen.toNat → exec .frRd2 s = .next { s with
        frCur := s.frCur + 2#32, status := 0#16, res1 := 0#32, res0 := BitVec.ofNat 64 (B 0 * 2 ^ 8 + B 1) }) ∧
      (c + 4 ≤ s.ilen.toNat → exec .frRd4 s = .next { s with
        frCur := s.frCur + 4#32, status := 0#16, res1 := 0#32,
        res0 := BitVec.ofNat 64 (B 0 * 2 ^ 24 + B 1 * 2 ^ 16 + B 2 * 2 ^ 8 + B 3) }) ∧
      (c + 8 ≤ s.ilen.toNat → exec .frRd8 s = .next { s with
        frCur := s.frCur + 8#32, status := 0#16, res1 := 0#32,
        res0 := BitVec.ofNat 64 (B 0 * 2 ^ 56 + B 1 * 2 ^ 48 + B 2 * 2 ^ 40 + B 3 * 2 ^ 32 + B 4 * 2 ^ 24 +
          B 5 * 2 ^ 16 + B 6 * 2 ^ 8 + B 7) }))

/-- R98: FR.OFS returns the cursor, or fails where no reader exists. -/
def Obligations.FrOfsReturnsTheCursor : Prop :=
  ∀ s : State,
    (s.frBound = false → exec .frOfs s = .next { s with status := 0x0001#16, res0 := 0#64, res1 := 0#32 }) ∧
    (s.frBound = true →
      exec .frOfs s = .next { s with status := 0#16, res0 := BitVec.ofNat 64 s.frCur.toNat, res1 := 0#32 })

/-- R99: the laws of the FieldReader. In (c) the bytes are written (R53) and the second read may come at a later draw and
with other host actions to follow. -/
def Obligations.FieldReaderLaws : Prop :=
  ∀ s : State, s.frBound = true →
    (∀ p ∈ fieldReads,
      (s.frCur.toNat + p.1 ≤ s.len → s.len ≤ s.params.ibufCap →
        ∃ t, exec p.2 s = .next t ∧ t.status = 0#16 ∧ t.frCur.toNat = s.frCur.toNat + p.1) ∧
      (¬ (s.frCur.toNat + p.1 ≤ s.len ∧ s.len ≤ s.params.ibufCap) →
        ∃ t, exec p.2 s = .next t ∧ t.status ≠ 0#16 ∧ t.frCur = s.frCur)) ∧
    (∀ p ∈ fieldReads, ∀ q ∈ fieldReads, ∀ (t u : State) (draws : Nat) (host : List HostAction), s.loaded →
      exec p.2 s = .next t → t.status = 0#16 → exec q.2 { t with draws := draws, host := host } = .next u →
      u.status = 0#16 →
      t.res0.toNat * 2 ^ (8 * q.1) + u.res0.toNat = be s.bytes s.frCur.toNat (p.1 + q.1)) ∧
    (∀ t u v : State, s.loaded → exec .frRd4 s = .next t → t.status = 0#16 → exec .frRd4 t = .next u →
      u.status = 0#16 → exec .frRd8 s = .next v →
      v.status = 0#16 ∧ v.res0.toNat = t.res0.toNat * 2 ^ 32 + u.res0.toNat) ∧
    ∀ i ∈ fieldReaderCommands, ∀ t, exec i s = .next t →
      t.ibuf = s.ibuf ∧ t.ilen = s.ilen ∧ sameExtractor s t ∧ t.out = s.out

/-- R46: a wide read gives the bytes that narrower reads give. -/
def Obligations.WideReadsAgreeWithNarrowReads : Prop :=
  ∀ (B : View) (i a b : Nat), be B i (a + b) = be B i a * 256 ^ b + be B (i + a) b

/-! ## FrameView -/

/-- R101, R192: every FV.* command and X.ADD fail with `InvalidArgument` on a buffer that is no frame. -/
def Obligations.FrameCommandsNeedAFrame : Prop :=
  ∀ (s : State), ∀ i ∈ frameViewCommands ++ [Instr.xAdd],
    s.ilen.toNat < 7 ∨ 65535 < s.ilen.toNat ∨ s.params.ibufCap < s.ilen.toNat →
    exec i s = .next { s with status := 0x0001#16, res0 := 0#64, res1 := 0#32 }

/-- R105 to R110: the six accessors return their fields and change the response only; on a buffer that is no frame they
fail. -/
def Obligations.FrameAccessorsReturnTheirFields : Prop :=
  ∀ (s : State) (F : Nat → Nat), (∀ k, F k = (s.view .field k).toNat) →
    (s.ilen.toNat < 7 ∨ 65535 < s.ilen.toNat ∨ s.params.ibufCap < s.ilen.toNat →
      ∀ i ∈ [Instr.fvScid, .fvVcid, .fvMcfc, .fvVcfc, .fvOcf, .fvFhp],
        exec i s = .next { s with status := 0x0001#16, res0 := 0#64, res1 := 0#32 }) ∧
    (7 ≤ s.ilen.toNat → s.ilen.toNat ≤ 65535 → s.ilen.toNat ≤ s.params.ibufCap →
      exec .fvScid s = .next { s with
        status := 0#16, res1 := 0#32, res0 := BitVec.ofNat 64 ((F 0 &&& 0x3F) * 16 + (F 1 >>> 4)) } ∧
      exec .fvVcid s = .next { s with
        status := 0#16, res1 := 0#32, res0 := BitVec.ofNat 64 ((F 1 >>> 1) &&& 7) } ∧
      exec .fvMcfc s = .next { s with status := 0#16, res1 := 0#32, res0 := BitVec.ofNat 64 (F 2) } ∧
      exec .fvVcfc s = .next { s with status := 0#16, res1 := 0#32, res0 := BitVec.ofNat 64 (F 3) } ∧
      exec .fvOcf s = .next { s with status := 0#16, res1 := 0#32, res0 := BitVec.ofNat 64 (F 1 &&& 1) } ∧
      exec .fvFhp s = .next { s with
        status := 0#16, res1 := 0#32, res0 := BitVec.ofNat 64 ((F 4 &&& 7) * 256 + F 5) })

/-- R103, R104: FV.VALIDATE sets one mask bit for each violated rule, and names the lowest of them in `CAUSE`. -/
def Obligations.FrameValidationReportsEveryViolatedRule : Prop :=
  ∀ s : State,
    (s.ilen.toNat < 7 ∨ 65535 < s.ilen.toNat ∨ s.params.ibufCap < s.ilen.toNat →
      exec .fvValidate s = .next { s with status := 0x0001#16, res0 := 0#64, res1 := 0#32 }) ∧
    (7 ≤ s.ilen.toNat → s.ilen.toNat ≤ 65535 → s.ilen.toNat ≤ s.params.ibufCap →
      ∃ (m : BitVec 8) (c : BitVec 4),
        (m.getLsbD 0 = true ↔ ¬ ((s.view .frVersion 0).getLsbD 7 = false ∧ (s.view .frVersion 0).getLsbD 6 = false)) ∧
        (m.getLsbD 1 = true ↔ (s.view .frSechdr 4).getLsbD 7 = false) ∧
        (m.getLsbD 2 = true ↔ (s.view .frSync 4).getLsbD 6 = true) ∧
        (m.getLsbD 3 = true ↔ (s.view .frOrder 4).getLsbD 5 = true) ∧
        (m.getLsbD 4 = true ↔ ¬ ((s.view .frSeglen 4).getLsbD 4 = true ∧ (s.view .frSeglen 4).getLsbD 3 = true)) ∧
        m.getLsbD 5 = false ∧ m.getLsbD 6 = false ∧ m.getLsbD 7 = false ∧
        (m ≠ 0#8 → m.getLsbD c.toNat = true ∧ ∀ j < c.toNat, m.getLsbD j = false) ∧
        exec .fvValidate s = .next { s with
          status := if m = 0#8 then 0#16 else m ++ c ++ 3#4, res0 := 0#64, res1 := 0#32 })

/-- R104: the written frames that pass are exactly those with `F[0] < 0x40` and `F[4]` from 0x98 to 0x9F. -/
def Obligations.FramePassesExactlyWithProfileBytes : Prop :=
  ∀ (s : State) (f0 f4 : Byte), s.frameOk → Memory.lookup s.ibuf 0 = some f0 → Memory.lookup s.ibuf 4 = some f4 →
    ∃ t, exec .fvValidate s = .next t ∧
      (t.status = 0#16 ↔ f0.toNat < 0x40 ∧ 0x98 ≤ f4.toNat ∧ f4.toNat ≤ 0x9F)

/-- R111: FV.DATA returns the offset 10 and the length of the data zone, or fails where the frame is shorter than its own
headers. -/
def Obligations.FvDataGivesTheDataZone : Prop :=
  ∀ (s : State) (hdr : Nat), hdr = 10 + 4 * ((s.view .field 1).toNat &&& 1) →
    (s.ilen.toNat < 7 ∨ 65535 < s.ilen.toNat ∨ s.params.ibufCap < s.ilen.toNat →
      exec .fvData s = .next { s with status := 0x0001#16, res0 := 0#64, res1 := 0#32 }) ∧
    (7 ≤ s.ilen.toNat → s.ilen.toNat ≤ 65535 → s.ilen.toNat ≤ s.params.ibufCap → s.ilen.toNat < hdr →
      exec .fvData s = .next { s with status := 0x0002#16, res0 := 0#64, res1 := 0#32 }) ∧
    (s.ilen.toNat ≤ 65535 → s.ilen.toNat ≤ s.params.ibufCap → hdr ≤ s.ilen.toNat →
      exec .fvData s = .next { s with
        status := 0#16, res0 := 10#64, res1 := BitVec.ofNat 32 (s.ilen.toNat - hdr) })

/-! ## PacketView -/

/-- R121, R192: every PV.* command fails with `InvalidArgument` on a buffer that is no packet. -/
def Obligations.PacketCommandsNeedSevenBytes : Prop :=
  ∀ (s : State), ∀ i ∈ packetViewCommands,
    s.ilen.toNat < 7 ∨ s.params.ibufCap < s.ilen.toNat →
    exec i s = .next { s with status := 0x0001#16, res0 := 0#64, res1 := 0#32 }

/-- R125 to R127: the primary-header accessors return their fields and change the response only; on a buffer that is no
packet they fail. -/
def Obligations.PacketHeaderAccessorsReturnTheirFields : Prop :=
  ∀ (s : State) (P : Nat → Nat), (∀ k, P k = (s.view .field k).toNat) →
    (s.ilen.toNat < 7 ∨ s.params.ibufCap < s.ilen.toNat →
      ∀ i ∈ [Instr.pvApid, .pvSeq, .pvLen],
        exec i s = .next { s with status := 0x0001#16, res0 := 0#64, res1 := 0#32 }) ∧
    (7 ≤ s.ilen.toNat → s.ilen.toNat ≤ s.params.ibufCap →
      exec .pvApid s = .next { s with
        status := 0#16, res1 := 0#32, res0 := BitVec.ofNat 64 ((P 0 &&& 7) * 256 + P 1) } ∧
      exec .pvSeq s = .next { s with
        status := 0#16, res1 := 0#32, res0 := BitVec.ofNat 64 ((P 2 &&& 0x3F) * 256 + P 3) } ∧
      exec .pvLen s = .next { s with
        status := 0#16, res1 := 0#32, res0 := BitVec.ofNat 64 (P 4 * 256 + P 5 + 7) })

/-- R122, R128 to R130: the one-byte accessors of the Data Field Header, at the offsets the run's parameters give (7, 8 and
9 by default, log 8). The bound is `ILEN`, not the declared packet length. -/
def Obligations.DataFieldHeaderAccessorsReturnTheirBytes : Prop :=
  ∀ s : State,
    ∀ p ∈ [(s.params.dfhStypeOff, Instr.pvStype), (s.params.dfhSsubOff, .pvSsub), (s.params.dfhDestOff, .pvDest)],
      (s.ilen.toNat < 7 ∨ s.params.ibufCap < s.ilen.toNat →
        exec p.2 s = .next { s with status := 0x0001#16, res0 := 0#64, res1 := 0#32 }) ∧
      (7 ≤ s.ilen.toNat → s.ilen.toNat ≤ s.params.ibufCap → s.ilen.toNat < p.1 + 1 →
        exec p.2 s = .next { s with status := 0x0002#16, res0 := 0#64, res1 := 0#32 }) ∧
      (7 ≤ s.ilen.toNat → s.ilen.toNat ≤ s.params.ibufCap → p.1 + 1 ≤ s.ilen.toNat →
        exec p.2 s = .next { s with
          status := 0#16, res1 := 0#32, res0 := BitVec.ofNat 64 (s.view .field p.1).toNat })

/-- R131: PV.TIME returns exactly the six bytes at the time offset (10 by default, log 8), not the two before them. -/
def Obligations.OnboardTimeIsItsSixBytes : Prop :=
  ∀ (s : State) (o : Nat) (P : Nat → Nat), s.params.wellFormed = true → o = s.params.dfhTimeOff →
    (∀ k, P k = (s.view .field (o + k)).toNat) →
    (s.ilen.toNat < 7 ∨ s.params.ibufCap < s.ilen.toNat →
      exec .pvTime s = .next { s with status := 0x0001#16, res0 := 0#64, res1 := 0#32 }) ∧
    (7 ≤ s.ilen.toNat → s.ilen.toNat ≤ s.params.ibufCap → s.ilen.toNat < o + 6 →
      exec .pvTime s = .next { s with status := 0x0002#16, res0 := 0#64, res1 := 0#32 }) ∧
    (s.ilen.toNat ≤ s.params.ibufCap → o + 6 ≤ s.ilen.toNat →
      exec .pvTime s = .next { s with
        status := 0#16, res1 := 0#32,
        res0 := BitVec.ofNat 64 (P 0 * 2 ^ 40 + P 1 * 2 ^ 32 + P 2 * 2 ^ 24 + P 3 * 2 ^ 16 + P 4 * 2 ^ 8 + P 5) })

/-- R132: PV.PEC returns the last two bytes of the declared packet. -/
def Obligations.PvPecReturnsTheTrailer : Prop :=
  ∀ (s : State) (plen : Nat), plen = (s.view .pkLength 4).toNat * 256 + (s.view .pkLength 5).toNat + 7 →
    (s.ilen.toNat < 7 ∨ s.params.ibufCap < s.ilen.toNat →
      exec .pvPec s = .next { s with status := 0x0001#16, res0 := 0#64, res1 := 0#32 }) ∧
    (7 ≤ s.ilen.toNat → s.ilen.toNat ≤ s.params.ibufCap →
      (s.ilen.toNat < plen →
        exec .pvPec s = .next { s with status := 0x0002#16, res0 := 0#64, res1 := 0#32 }) ∧
      (plen ≤ s.ilen.toNat →
        exec .pvPec s = .next { s with
          status := 0#16, res1 := 0#32,
          res0 := BitVec.ofNat 64 ((s.view .pkPec (plen - 2)).toNat * 256 + (s.view .pkPec (plen - 1)).toNat) }))

/-- R133: PV.PAYLOAD returns the offset 16 and the length of the payload. -/
def Obligations.PvPayloadGivesTheSlice : Prop :=
  ∀ (s : State) (plen : Nat), plen = (s.view .pkLength 4).toNat * 256 + (s.view .pkLength 5).toNat + 7 →
    (s.ilen.toNat < 7 ∨ s.params.ibufCap < s.ilen.toNat →
      exec .pvPayload s = .next { s with status := 0x0001#16, res0 := 0#64, res1 := 0#32 }) ∧
    (7 ≤ s.ilen.toNat → s.ilen.toNat ≤ s.params.ibufCap →
      (plen < 18 ∨ s.ilen.toNat < plen →
        exec .pvPayload s = .next { s with status := 0x0002#16, res0 := 0#64, res1 := 0#32 }) ∧
      (18 ≤ plen → plen ≤ s.ilen.toNat →
        exec .pvPayload s = .next { s with
          status := 0#16, res0 := 16#64, res1 := BitVec.ofNat 32 (plen - 18) }))

/-- R123, R124: PV.VALIDATE sets one mask bit for each violated rule, names the lowest of them in `CAUSE`, and leaves the
computed and the read CRC in `RES0` and `RES1` whenever the buffer holds the declared packet. -/
def Obligations.PacketValidationReportsEveryViolatedRule : Prop :=
  ∀ (s : State) (plen : Nat), plen = (s.view .pkLength 4).toNat * 256 + (s.view .pkLength 5).toNat + 7 →
    (s.ilen.toNat < 7 ∨ s.params.ibufCap < s.ilen.toNat →
      exec .pvValidate s = .next { s with status := 0x0001#16, res0 := 0#64, res1 := 0#32 }) ∧
    (7 ≤ s.ilen.toNat → s.ilen.toNat ≤ s.params.ibufCap →
      ∃ (m : BitVec 8) (c : BitVec 4) (computed read : BitVec 16),
        (plen ≤ s.ilen.toNat → computed = crc16 (run (s.view .pkCrcRun) 0 (plen - 2)) ∧
          read = s.view .pkPec (plen - 2) ++ s.view .pkPec (plen - 1)) ∧
        (s.ilen.toNat < plen → computed = 0#16 ∧ read = 0#16) ∧
        (m.getLsbD 0 = true ↔ s.ilen.toNat < plen) ∧
        (m.getLsbD 1 = true ↔ (s.view .pkVersion 0).toNat >>> 5 ≠ 0) ∧
        (m.getLsbD 2 = true ↔ (s.view .pkType 0).getLsbD 4 = true) ∧
        (m.getLsbD 3 = true ↔ (s.view .pkDfh 0).getLsbD 3 = false) ∧
        (m.getLsbD 4 = true ↔ (s.view .pkSeg 2).toNat >>> 6 ≠ 3) ∧
        (m.getLsbD 5 = true ↔ plen ≤ s.ilen.toNat ∧ computed ≠ read) ∧
        m.getLsbD 6 = false ∧ m.getLsbD 7 = false ∧
        (m ≠ 0#8 → m.getLsbD c.toNat = true ∧ ∀ j < c.toNat, m.getLsbD j = false) ∧
        exec .pvValidate s = .next { s with
          status := if m = 0#8 then 0#16 else m ++ c ++ 4#4, res0 := computed.setWidth 64, res1 := read.setWidth 32 })

/-- R124: a written packet passes exactly when the buffer holds it, its header flags hold and its trailer is the CRC of
the bytes before it. -/
def Obligations.PacketPassesExactlyWithFlagsAndCrc : Prop :=
  ∀ s : State, s.packetOk → s.loaded →
    ∃ t, exec .pvValidate s = .next t ∧
      (t.status = 0#16 ↔
        packetLength s.bytes ≤ s.len ∧ (s.bytes 0).toNat >>> 3 = 1 ∧ (s.bytes 2).toNat >>> 6 = 3 ∧
          (crc16 (run s.bytes 0 (packetLength s.bytes - 2))).toNat = be s.bytes (packetLength s.bytes - 2) 2)

/-- R123: a violated header flag outranks the CRC mismatch it causes: `CAUSE` names the first violated header rule. -/
def Obligations.HeaderFaultOutranksTheCrc : Prop :=
  ∀ (s t : State), s.packetOk → s.loaded → packetLength s.bytes ≤ s.len → exec .pvValidate s = .next t →
    (statusCause t.status =
      if (s.bytes 0).toNat >>> 5 ≠ 0 then 1#4
      else if (s.bytes 0).getLsbD 4 = true then 2#4
      else if (s.bytes 0).getLsbD 3 = false then 3#4
      else if (s.bytes 2).toNat >>> 6 ≠ 3 then 4#4
      else if (crc16 (run s.bytes 0 (packetLength s.bytes - 2))).toNat ≠ be s.bytes (packetLength s.bytes - 2) 2
        then 5#4
      else 0#4)

/-! ## CRC16 -/

/-- R141, whose pairing of constants with index bits the spec derives from R145: the table entry of `i` is the exclusive-or of the constants of the bits of `i`. -/
def Obligations.CrcTableComesFromTheEightConstants : Prop :=
  crcTable.length = 256 ∧
  ∀ i : BitVec 8, crcTable.getD i.toNat 0#16 =
    (List.zip [0, 1, 2, 3, 4, 5, 6, 7]
      [0x1021#16, 0x2042#16, 0x4084#16, 0x8108#16, 0x1231#16, 0x2462#16, 0x48C4#16, 0x9188#16]).foldl
      (fun (acc : BitVec 16) k => if i.getLsbD k.1 = true then acc ^^^ k.2 else acc) 0#16

/-- R145: the reference vectors of ECSS-E-70-41A Annex A.1.5. -/
def Obligations.CrcReferenceVectors : Prop :=
  crc16 [0x00#8, 0x00#8] = 0x1D0F#16 ∧ crc16 [0x00#8, 0x00#8, 0x00#8] = 0xCC9C#16 ∧
  crc16 [0xAB#8, 0xCD#8, 0xEF#8, 0x01#8] = 0x04A2#16 ∧
  crc16 [0x14#8, 0x56#8, 0xF8#8, 0x9A#8, 0x00#8, 0x01#8] = 0x7FD5#16

/-- R144: CRC.COMPUTE returns the CRC of the whole buffer, 0xFFFF for an empty one. -/
def Obligations.CrcComputeReturnsTheCrc : Prop :=
  ∀ s : State,
    (s.params.ibufCap < s.ilen.toNat →
      exec .crcCompute s = .next { s with status := 0x0001#16, res0 := 0#64, res1 := 0#32 }) ∧
    (s.ilen.toNat ≤ s.params.ibufCap →
      exec .crcCompute s = .next { s with
        status := 0#16, res1 := 0#32, res0 := BitVec.ofNat 64 (crc16 (run (s.view .field) 0 s.ilen.toNat)).toNat }) ∧
    (s.ilen = 0#32 → exec .crcCompute s = .next { s with status := 0#16, res1 := 0#32, res0 := 0xFFFF#64 })

/-- R146, which the spec derives from R141 and R143, with (d) from general knowledge: the laws of the CRC: (a) the empty sequence, (b) the bit-serial form of one update, with the generator
x^16 + x^12 + x^5 + 1, (c) a sequence with its CRC appended, (d) the nine digits. -/
def Obligations.CrcLaws : Prop :=
  crc16 [] = 0xFFFF#16 ∧
  (∀ (bytes : List Byte) (b : Byte), crc16 (bytes ++ [b]) =
    (fun x : BitVec 16 => if x.getLsbD 15 = true then (x <<< 1) ^^^ 0x1021#16 else x <<< 1)^[8]
      (crc16 bytes ^^^ (b.setWidth 16 <<< 8))) ∧
  (∀ bytes : List Byte,
    crc16 (bytes ++ [(crc16 bytes).extractLsb' 8 8, (crc16 bytes).extractLsb' 0 8]) = 0#16) ∧
  crc16 [0x31#8, 0x32#8, 0x33#8, 0x34#8, 0x35#8, 0x36#8, 0x37#8, 0x38#8, 0x39#8] = 0x29B1#16

/-! ## PacketExtractor -/

/-- R152 to R154: a frame that fails a pre-check of X.ADD, tested in this order, leaves the error's response and nothing
else changed. -/
def Obligations.XAddRejectsWithoutEffect : Prop :=
  ∀ (s : State) (hdr fhp : Nat), hdr = 10 + 4 * ((s.view .addOcf 1).toNat &&& 1) →
    fhp = ((s.view .addFhp 4).toNat &&& 7) * 256 + (s.view .addFhp 5).toNat →
    (s.ilen.toNat < 7 ∨ 65535 < s.ilen.toNat ∨ s.params.ibufCap < s.ilen.toNat →
      exec .xAdd s = .next { s with status := 0x0001#16, res0 := 0#64, res1 := 0#32 }) ∧
    (7 ≤ s.ilen.toNat → s.ilen.toNat ≤ 65535 → s.ilen.toNat ≤ s.params.ibufCap →
      ((s.view .addVcid 1).toNat >>> 1) &&& 7 ≠ s.cfgVcid.toNat →
      exec .xAdd s = .next { s with status := 0x0005#16, res0 := 0#64, res1 := 0#32 }) ∧
    (7 ≤ s.ilen.toNat → s.ilen.toNat ≤ 65535 → s.ilen.toNat ≤ s.params.ibufCap →
      ((s.view .addVcid 1).toNat >>> 1) &&& 7 = s.cfgVcid.toNat → fhp ≠ 0x7FE →
      s.ilen.toNat < hdr ∨ (fhp ≤ 0x7FD ∧ s.ilen.toNat - hdr < fhp) →
      exec .xAdd s = .next { s with status := 0x0002#16, res0 := 0#64, res1 := 0#32 })

/-- R156: an idle frame does what step 2 does and nothing more: a pending packet survives unless the frame follows a
gap. -/
def Obligations.IdleFrameIsTransparent : Prop :=
  ∀ s : State, s.rbInv → s.addAccepts → s.fhp = fhpIdleData →
    exec .xAdd s = .next (s.addResult s.gapEvents s.gapLost (if s.stillPending then some s.rb else none))

/-- R158, R166 to R171: a frame that starts with a packet while nothing is pending (after a gap nothing is, R175): its
whole data zone is cut by the rules of step 6, in one way only. -/
def Obligations.FrameStartingAtZeroIsCutIntoPackets : Prop :=
  ∀ s : State, s.rbInv → s.addAccepts → s.fhp = 0#11 → s.stillPending = false →
    ∃ events pending, ZoneRun s.view s.params 10 s.zoneLength events pending ∧
      (∀ events' pending', ZoneRun s.view s.params 10 s.zoneLength events' pending' →
        events' = events ∧ pending' = pending) ∧
      exec .xAdd s = .next (s.addResult (s.gapEvents ++ events) s.gapLost pending)

/-- R159: a start at offset 0 while a packet is pending: the diagnostic, the loss, and then step 6 on the whole data
zone. -/
def Obligations.StartAtZeroLosesThePendingPacket : Prop :=
  ∀ s : State, s.rbInv → s.addAccepts → s.fhp = 0#11 → s.stillPending = true →
    ∃ events pending, ZoneRun s.view s.params 10 s.zoneLength events pending ∧
      exec .xAdd s = .next (s.addResult
        (diagEvent s.params .protoStartWithPending s.rb.length 0 [] :: events) 1 pending)

/-- R160: continuation bytes with nothing to continue are skipped; a loss is counted unless the frame follows a gap or is
the first. That nothing is logged or counted after a gap is reading B of the source's sentence, the one R160 takes (D14,
91_not_in_source.md N3; DEDUCED, log 13). -/
def Obligations.ContinuationWithNothingPendingIsSkipped : Prop :=
  ∀ s : State, s.rbInv → s.addAccepts → s.fhp ≠ 0#11 → s.fhp ≠ fhpIdleData → s.stillPending = false →
    ∃ events pending,
      ZoneRun s.view s.params (10 + s.continuation) (s.zoneLength - s.continuation) events pending ∧
      exec .xAdd s = .next (s.addResult
        ((if s.missed ≠ 0#8 then s.gapEvents
          else if s.started then [diagEvent s.params .protoContWithoutPending s.fhp.toNat 0 []]
          else [diagEvent s.params .firstFrameContinuation s.fhp.toNat 0 []]) ++ events)
        (if s.missed ≠ 0#8 then s.gapLost else if s.started then 1 else 0) pending)

/-- R161 to R165: the continuation of a pending packet: it is emitted when complete, kept when the frame starts no packet,
and lost otherwise; step 6 then takes the rest of the data zone. -/
def Obligations.PendingPacketIsContinued : Prop :=
  ∀ s : State, s.rbInv → s.addAccepts → s.fhp ≠ 0#11 → s.fhp ≠ fhpIdleData → s.stillPending = true →
    (s.joinedComplete = true →
      ∃ events pending,
        ZoneRun s.view s.params (10 + s.continuation) (s.zoneLength - s.continuation) events pending ∧
        exec .xAdd s = .next (s.addResult
          (emitEvent (s.joinedRb.take (packetLength (listView s.joinedRb))) true :: events) 0 pending)) ∧
    (s.joinedComplete = false → s.fhp = fhpNoPacketStart →
      exec .xAdd s = .next (s.addResult [] 0 (some s.joinedRb))) ∧
    (s.joinedComplete = false → s.fhp ≠ fhpNoPacketStart →
      ∃ events pending,
        ZoneRun s.view s.params (10 + s.continuation) (s.zoneLength - s.continuation) events pending ∧
        exec .xAdd s = .next (s.addResult
          (diagEvent s.params .packetIncomplete s.joinedRb.length
            (if 7 ≤ s.joinedRb.length then packetLength (listView s.joinedRb) - s.joinedRb.length else 0xFFFFFFFF) [] ::
            events) 1 pending))

/-- R172: the loop of step 6 needs no more turns than there are bytes. -/
def Obligations.LoopOfStepSixEnds : Prop :=
  ∀ (F : ReadSite → View) (fuel : Nat) (w : AddWork), w.rem ≤ fuel → addPackets F fuel w = addPackets F w.rem w

/-- R151, R174, R178: X.ADD and X.END append their events to `OUT`; unless X.ADD rejects the frame, `STATUS` is 0, `RES0`
counts the packets and `RES1` the diagnostics. -/
def Obligations.ExtractorAnswersWithEventCounts : Prop :=
  ∀ (s : State), ∀ i ∈ [Instr.xAdd, .xEnd],
    ∃ t events, exec i s = .next t ∧ t.out = s.out ++ events ∧
      ((i = .xEnd ∨ s.addAccepts) → t.status = 0#16 ∧
        t.res0 = BitVec.ofNat 64 (events.countP Event.isEmit) ∧
        t.res1 = BitVec.ofNat 32 (events.length - events.countP Event.isEmit)) ∧
      (i = .xAdd → ¬ s.addAccepts → events = [] ∧ t.status ≠ 0#16)

/-- R178 to R180: X.END counts a loss unless the pending bytes are all zero or start like an idle packet, and clears the
buffer in every case; everything else stays. A second X.END does nothing more. -/
def Obligations.XEndJudgesThePendingBuffer : Prop :=
  ∀ (s : State) (benign : Prop),
    (benign ↔ (∀ b ∈ s.rb, b = 0#8) ∨ (s.rb[0]? = some 0x07#8 ∧ (s.rb.length < 2 ∨ s.rb[1]? = some 0xFF#8))) →
    (s.rbPresent = false →
      exec .xEnd s = .next { s with status := 0#16, res0 := 0#64, res1 := 0#32 }) ∧
    (s.rbPresent = true → benign →
      exec .xEnd s = .next { s with
        rbPresent := false, rb := [], status := 0#16, res0 := 0#64, res1 := 0#32 }) ∧
    (s.rbPresent = true → ¬ benign →
      exec .xEnd s = .next { s with
        rbPresent := false, rb := [], packetsLost := satAdd s.packetsLost 1,
        out := s.out ++ [.diag .endIncomplete s.params.sevEndIncomplete (BitVec.ofNat 32 s.rb.length) 0#32
          (s.rb.take (min s.rb.length s.params.previewBytes))],
        status := 0#16, res0 := 0#64, res1 := 1#32 }) ∧
    ∀ t u, exec .xEnd s = .next t → exec .xEnd t = .next u → u = { t with res1 := 0#32 }

/-- R181 to R184: the four counter reads. -/
def Obligations.CounterReadsReturnTheCounters : Prop :=
  ∀ s : State,
    exec .xNproc s = .next { s with status := 0#16, res1 := 0#32, res0 := BitVec.ofNat 64 s.framesProcessed.toNat } ∧
    exec .xNextr s = .next { s with status := 0#16, res1 := 0#32, res0 := BitVec.ofNat 64 s.packetsExtracted.toNat } ∧
    exec .xNmiss s = .next { s with status := 0#16, res1 := 0#32, res0 := BitVec.ofNat 64 s.framesMissing.toNat } ∧
    exec .xNlost s = .next { s with status := 0#16, res1 := 0#32, res0 := BitVec.ofNat 64 s.packetsLost.toNat }

/-- R209, R23: every way the counters grow: `PACKETS_LOST` by at most 1 a command, in the five cases of R209 and no other;
`PACKETS_EXTRACTED` by 1 for each packet emitted; `FRAMES_MISSING` by at most 255 and `FRAMES_PROCESSED` by 1, for an
accepted frame only; each by saturating addition at 0xFFFFFFFF, which is also what `satAdd` of the other statements is.
R209 is the spec's own inference; its case (3) and "at most 1" rest on reading B of step 5b (R160, D14; DEDUCED,
log 13). -/
def Obligations.EveryLossIsCountedOnce : Prop :=
  (∀ (c : BitVec 32) (k : Nat), (satAdd c k).toNat = min (c.toNat + k) 0xFFFFFFFF) ∧
  ∀ (i : Instr) (s t : State), s.rbInv → exec i s = .next t →
    ∃ events lost missing processed, t.out = s.out ++ events ∧
      t.packetsLost.toNat = min (s.packetsLost.toNat + lost) 0xFFFFFFFF ∧
      t.packetsExtracted.toNat = min (s.packetsExtracted.toNat + events.countP Event.isEmit) 0xFFFFFFFF ∧
      t.framesMissing.toNat = min (s.framesMissing.toNat + missing) 0xFFFFFFFF ∧
      t.framesProcessed.toNat = min (s.framesProcessed.toNat + processed) 0xFFFFFFFF ∧
      lost ≤ 1 ∧ missing ≤ 255 ∧
      (processed = if i = .xAdd ∧ s.addAccepts then 1 else 0) ∧
      (missing = if i = .xAdd ∧ s.addAccepts then s.missed.toNat else 0) ∧
      (lost = 1 ↔
        (i = .xAdd ∧ s.addAccepts ∧ s.missed ≠ 0#8 ∧ s.rbPresent = true) ∨
        (i = .xAdd ∧ s.addAccepts ∧ s.missed = 0#8 ∧ s.rbPresent = true ∧ s.fhp = 0#11) ∨
        (i = .xAdd ∧ s.addAccepts ∧ s.missed = 0#8 ∧ s.rbPresent = false ∧ s.started = true ∧ s.fhp ≠ 0#11 ∧
          s.fhp ≠ fhpIdleData) ∨
        (i = .xAdd ∧ s.addAccepts ∧ s.missed = 0#8 ∧ s.rbPresent = true ∧ s.fhp ≠ 0#11 ∧ s.fhp ≠ fhpIdleData ∧
          s.fhp ≠ fhpNoPacketStart ∧ s.joinedComplete = false) ∨
        (i = .xEnd ∧ s.rbPresent = true ∧ rbBenign s.rb = false))

/-- R30, R176: on written input every packet a command emits has the bytes it says, and as many as it declares. -/
def Obligations.EmittedPacketsAreWhole : Prop :=
  ∀ (i : Instr) (s t : State), s.loaded → exec i s = .next t →
    ∃ events, t.out = s.out ++ events ∧ ∀ e ∈ events, e.whole

/-- R176: a command emits at most one reconstructed packet, and it comes before every other packet of the command. -/
def Obligations.ReconstructedPacketComesFirst : Prop :=
  ∀ (i : Instr) (s t : State) (before after : List Event) (e : Event), exec i s = .next t →
    t.out = s.out ++ before ++ e :: after → e.isReconstructed = true →
    (∀ x ∈ before, x.isEmit = false) ∧ ∀ x ∈ after, x.isReconstructed = false

/-- R205, R206: every diagnostic a command appends carries the severity of its code; END_INCOMPLETE comes from X.END only
and the six others from X.ADD only, with an empty preview. -/
def Obligations.DiagnosticsCarryTheirSeverity : Prop :=
  ∀ (i : Instr) (s t : State), exec i s = .next t →
    ∃ events, t.out = s.out ++ events ∧ ∀ code severity arg0 arg1 preview,
      Event.diag code severity arg0 arg1 preview ∈ events →
      severity = diagSeverity s.params code ∧
        ((code = .endIncomplete ∧ i = .xEnd) ∨ (code ≠ .endIncomplete ∧ i = .xAdd ∧ preview = []))

/-! ## The whole block -/

/-- R190 to R193, R196, R199: which error a command answers, exactly: `InvalidArgument` and `OutOfBounds` under the conditions
the spec lists, `WrongChannel` from X.ADD, the two validation classes from the two validate commands, `BadOpcode` from no
command. The first three leave nothing but the class, except that a failing FR.BIND clears `FR_BOUND`. -/
def Obligations.FailuresAreExactAndLeaveNoTrace : Prop :=
  ∀ (i : Instr) (s t : State), exec i s = .next t →
    (statusErr t.status = 1#4 ↔ s.badArgument i) ∧
    (statusErr t.status = 5#4 ↔ ¬ s.badArgument i ∧ s.wrongChannel i) ∧
    (statusErr t.status = 2#4 ↔ ¬ s.badArgument i ∧ ¬ s.wrongChannel i ∧ s.pastTheEnd i) ∧
    (statusErr t.status = 3#4 → i = .fvValidate) ∧ (statusErr t.status = 4#4 → i = .pvValidate) ∧
    statusErr t.status ≠ 6#4 ∧
    (statusErr t.status = 1#4 ∨ statusErr t.status = 2#4 ∨ statusErr t.status = 5#4 →
      t = { s with
        status := (statusErr t.status).setWidth 16, res0 := 0#64, res1 := 0#32
        frBound := if i = .frBind then false else s.frBound })

/-- R50, R100, R120, R140: the read-only commands change the response only, and repeated at the same draw of unwritten
bytes (log 2) they answer the same. -/
def Obligations.ReadOnlyCommandsLeaveOnlyAResponse : Prop :=
  ∀ (s : State), ∀ i ∈ readOnlyCommands,
    ∃ t, exec i s = .next t ∧ t = { s with status := t.status, res0 := t.res0, res1 := t.res1 } ∧ exec i t = .next t

/-- R41, R203, R17, R32: no command writes `IBUF`, `ILEN`, `CFG_VCID` or a parameter, and what a command appends to `OUT`
comes after what is there (R30); no step at all writes a parameter. -/
def Obligations.NoCommandWritesItsInput : Prop :=
  (∀ (i : Instr) (s t : State), exec i s = .next t → sameInput s t ∧ ∃ events, t.out = s.out ++ events) ∧
  ∀ s t : State, step s = .next t → t.params = s.params

/-- R10, R90, R150: only FieldReader commands write the reader, only X.ADD and X.END write the extractor and append to
`OUT`. -/
def Obligations.UnitsKeepToTheirOwnState : Prop :=
  ∀ (i : Instr) (s t : State), exec i s = .next t →
    (i ∉ fieldReaderCommands → sameReader s t) ∧
    (i ≠ .xAdd → i ≠ .xEnd → sameExtractor s t ∧ t.out = s.out)

/-- R17, R18, R22, R23, R30, R220: unless the host resets the block, a step never lowers a counter, never clears `STARTED`,
never changes `CFG_VCID` and never takes an event back. -/
def Obligations.NothingIsTakenBackBeforeReset : Prop :=
  ∀ s t : State, step s = .next t → (∀ vcid rest, s.host ≠ .reset vcid :: rest) →
    s.framesProcessed.toNat ≤ t.framesProcessed.toNat ∧ s.packetsExtracted.toNat ≤ t.packetsExtracted.toNat ∧
    s.framesMissing.toNat ≤ t.framesMissing.toNat ∧ s.packetsLost.toNat ≤ t.packetsLost.toNat ∧
    (s.started = true → t.started = true) ∧ t.cfgVcid = s.cfgVcid ∧ ∃ events, t.out = s.out ++ events

/-- R33: no rule reads `FR_CUR` while `FR_BOUND` is 0, nor `EXPECTED` while `STARTED` is 0: whatever value stands there, a
command does the same, and either writes it or leaves it. -/
def Obligations.UnspecifiedRegistersAreNotRead : Prop :=
  ∀ (i : Instr) (s : State),
    (s.frBound = false → ∀ cursor, ∃ t u, exec i s = .next t ∧ exec i { s with frCur := cursor } = .next u ∧
      (u = t ∨ u = { t with frCur := cursor })) ∧
    (s.started = false → ∀ counter, ∃ t u, exec i s = .next t ∧ exec i { s with expected := counter } = .next u ∧
      (u = t ∨ u = { t with expected := counter }))

/-- R185, R31, R48: what a command answers, does to the reader and the extractor, and emits, depends on nothing but their
registers, the parameters and the loaded bytes `IBUF[0..ILEN)`: no byte at or past `ILEN` is read, no earlier response and
no earlier event. -/
def Obligations.AnswersDependOnTheLoadedBytesOnly : Prop :=
  ∀ (i : Instr) (s s' : State), s.params.wellFormed = true → s'.params = s.params → s'.ilen = s.ilen →
    sameExtractor s s' → sameReader s s' → s.loaded → (∀ o < s.len, Memory.lookup s'.ibuf o = Memory.lookup s.ibuf o) →
    ∃ t t' events, exec i s = .next t ∧ exec i s' = .next t' ∧ t'.status = t.status ∧ t'.res0 = t.res0 ∧
      t'.res1 = t.res1 ∧ sameExtractor t t' ∧ sameReader t t' ∧ t.out = s.out ++ events ∧ t'.out = s'.out ++ events

/-- R21, R13, R40, R6: every step keeps the invariant: the reassembly buffer is as R21 says, `STATUS` has the form of R13,
`IBUF` is canonical and within its capacity, the parameters are well-formed. Only before an X.ADD whose frame passes its
pre-checks and is not idle is the host's duty of R223 (2) a premise, because two reads of an unwritten byte may differ
(R53; DEDUCED, log 20). -/
def Obligations.StepKeepsTheInvariant : Prop :=
  ∀ s t : State, s.Inv → s.hostDuty → step s = .next t → t.Inv

/-- R21, R10: between commands the reassembly buffer holds at most 65541 bytes, so `RB_LEN`, the buffer's length
(log 9), fits its 18 bits. -/
def Obligations.ReassemblyBufferFitsItsLength : Prop :=
  ∀ s : State, s.rbInv → s.rbLen ≤ 65541 ∧ (BitVec.ofNat 18 s.rbLen).toNat = s.rbLen

/-- R30, R176, R220: every step keeps every packet in `OUT` whole: it carries as many bytes as it says and as many as it
declares; at reset there is none. The premise about the host is that of `StepKeepsTheInvariant` (log 20). -/
def Obligations.OutputKeepsItsPacketsWhole : Prop :=
  (∀ e ∈ State.reset.out, e.whole) ∧
  ∀ s t : State, (∀ e ∈ s.out, e.whole) → s.hostDuty → step s = .next t → ∀ e ∈ t.out, e.whole
end

