-- ==== Sys2Proof/Laws/Counters.lean ====
section
/-! SUPPORT. The saturating counters (R8, R23) and the fields of `STATUS` (R13). -/

namespace Sys2Proof.Machine

/-- R23: what a counter holds after an increment. -/
theorem satAdd_toNat (c : BitVec 32) (k : Nat) : (satAdd c k).toNat = min (c.toNat + k) 0xFFFFFFFF := by
  unfold satAdd sat32
  rw [BitVec.toNat_ofNat, Nat.mod_eq_of_lt (by omega)]

@[simp] theorem satAdd_zero (c : BitVec 32) : satAdd c 0 = c := by
  apply BitVec.eq_of_toNat_eq
  rw [satAdd_toNat]
  have := c.isLt
  omega

/-- Two increments are one by the sum. -/
theorem satAdd_satAdd (c : BitVec 32) (j k : Nat) : satAdd (satAdd c j) k = satAdd c (j + k) := by
  apply BitVec.eq_of_toNat_eq
  rw [satAdd_toNat, satAdd_toNat, satAdd_toNat]
  omega

/-- R22, R23: a counter never decreases. -/
theorem le_satAdd (c : BitVec 32) (k : Nat) : c.toNat ≤ (satAdd c k).toNat := by
  rw [satAdd_toNat]
  have := c.isLt
  omega

/-- R13: the bits of `STATUS`, field by field. -/
theorem statusWord_getLsbD (m : BitVec 8) (c e : BitVec 4) (i : Nat) :
    (statusWord m c e).getLsbD i =
      if i < 4 then e.getLsbD i else if i - 4 < 4 then c.getLsbD (i - 4) else m.getLsbD (i - 4 - 4) := by
  show (m ++ c ++ e).getLsbD i = _
  rw [BitVec.getLsbD_append, BitVec.getLsbD_append]

theorem statusErr_statusWord (m : BitVec 8) (c e : BitVec 4) : statusErr (statusWord m c e) = e := by
  apply BitVec.eq_of_getLsbD_eq
  intro i hi
  rw [statusErr, BitVec.getLsbD_extractLsb', statusWord_getLsbD, Nat.zero_add, if_pos hi]
  simp [hi]

theorem statusCause_statusWord (m : BitVec 8) (c e : BitVec 4) : statusCause (statusWord m c e) = c := by
  apply BitVec.eq_of_getLsbD_eq
  intro i hi
  rw [statusCause, BitVec.getLsbD_extractLsb', statusWord_getLsbD, if_neg (by omega), if_pos (by omega)]
  simp [hi]

theorem statusVmask_statusWord (m : BitVec 8) (c e : BitVec 4) : statusVmask (statusWord m c e) = m := by
  apply BitVec.eq_of_getLsbD_eq
  intro i hi
  rw [statusVmask, BitVec.getLsbD_extractLsb', statusWord_getLsbD, if_neg (by omega), if_neg (by omega),
    show 8 + i - 4 - 4 = i by omega]
  simp [hi]

/-- R13, R104: the lowest set bit of a mask that is not 0 is set, and no lower one is. -/
theorem lowestSetBit_spec (m : BitVec 8) (h : m ≠ 0#8) :
    m.getLsbD (lowestSetBit m).toNat = true ∧ ∀ j < (lowestSetBit m).toNat, m.getLsbD j = false := by
  revert m
  decide

/-- R103, R123: each bit of the mask is the rule it stands for, and bits 6 and 7 are 0. -/
theorem violationMask_bits (b0 b1 b2 b3 b4 b5 : Bool) :
    (violationMask b0 b1 b2 b3 b4 b5).getLsbD 0 = b0 ∧ (violationMask b0 b1 b2 b3 b4 b5).getLsbD 1 = b1 ∧
    (violationMask b0 b1 b2 b3 b4 b5).getLsbD 2 = b2 ∧ (violationMask b0 b1 b2 b3 b4 b5).getLsbD 3 = b3 ∧
    (violationMask b0 b1 b2 b3 b4 b5).getLsbD 4 = b4 ∧ (violationMask b0 b1 b2 b3 b4 b5).getLsbD 5 = b5 ∧
    (violationMask b0 b1 b2 b3 b4 b5).getLsbD 6 = false ∧ (violationMask b0 b1 b2 b3 b4 b5).getLsbD 7 = false := by
  revert b0 b1 b2 b3 b4 b5
  decide

theorem violationMask_lt (b0 b1 b2 b3 b4 b5 : Bool) :
    (violationMask b0 b1 b2 b3 b4 b5).toNat < 64 ∧ (b5 = false → (violationMask b0 b1 b2 b3 b4 b5).toNat < 32) := by
  revert b0 b1 b2 b3 b4 b5
  decide

/-- R104, R124: no rule violated is exactly every bit 0. -/
theorem violationMask_eq_zero (b0 b1 b2 b3 b4 b5 : Bool) :
    violationMask b0 b1 b2 b3 b4 b5 = 0#8 ↔
      b0 = false ∧ b1 = false ∧ b2 = false ∧ b3 = false ∧ b4 = false ∧ b5 = false := by
  revert b0 b1 b2 b3 b4 b5
  decide

end Sys2Proof.Machine
end

