-- ==== Sys2Proof/Laws/State.lean ====
section
/-! SUPPORT. What each named update of the state leaves in each field, and of the work of X.ADD in each of its fields; every
lemma is true by unfolding. -/

namespace Sys2Proof.Machine

variable (s : State) (w : AddWork)

/-! ## respond -/

@[simp] theorem State.respond_ibuf (v : BitVec 16) (a : BitVec 64) (b : BitVec 32) : (s.respond v a b).ibuf = s.ibuf := rfl
@[simp] theorem State.respond_ilen (v : BitVec 16) (a : BitVec 64) (b : BitVec 32) : (s.respond v a b).ilen = s.ilen := rfl
@[simp] theorem State.respond_status (v : BitVec 16) (a : BitVec 64) (b : BitVec 32) : (s.respond v a b).status = v := rfl
@[simp] theorem State.respond_res0 (v : BitVec 16) (a : BitVec 64) (b : BitVec 32) : (s.respond v a b).res0 = a := rfl
@[simp] theorem State.respond_res1 (v : BitVec 16) (a : BitVec 64) (b : BitVec 32) : (s.respond v a b).res1 = b := rfl
@[simp] theorem State.respond_frBound (v : BitVec 16) (a : BitVec 64) (b : BitVec 32) : (s.respond v a b).frBound = s.frBound := rfl
@[simp] theorem State.respond_frCur (v : BitVec 16) (a : BitVec 64) (b : BitVec 32) : (s.respond v a b).frCur = s.frCur := rfl
@[simp] theorem State.respond_cfgVcid (v : BitVec 16) (a : BitVec 64) (b : BitVec 32) : (s.respond v a b).cfgVcid = s.cfgVcid := rfl
@[simp] theorem State.respond_started (v : BitVec 16) (a : BitVec 64) (b : BitVec 32) : (s.respond v a b).started = s.started := rfl
@[simp] theorem State.respond_expected (v : BitVec 16) (a : BitVec 64) (b : BitVec 32) : (s.respond v a b).expected = s.expected := rfl
@[simp] theorem State.respond_rbPresent (v : BitVec 16) (a : BitVec 64) (b : BitVec 32) : (s.respond v a b).rbPresent = s.rbPresent := rfl
@[simp] theorem State.respond_rb (v : BitVec 16) (a : BitVec 64) (b : BitVec 32) : (s.respond v a b).rb = s.rb := rfl
@[simp] theorem State.respond_framesProcessed (v : BitVec 16) (a : BitVec 64) (b : BitVec 32) : (s.respond v a b).framesProcessed = s.framesProcessed := rfl
@[simp] theorem State.respond_packetsExtracted (v : BitVec 16) (a : BitVec 64) (b : BitVec 32) : (s.respond v a b).packetsExtracted = s.packetsExtracted := rfl
@[simp] theorem State.respond_framesMissing (v : BitVec 16) (a : BitVec 64) (b : BitVec 32) : (s.respond v a b).framesMissing = s.framesMissing := rfl
@[simp] theorem State.respond_packetsLost (v : BitVec 16) (a : BitVec 64) (b : BitVec 32) : (s.respond v a b).packetsLost = s.packetsLost := rfl
@[simp] theorem State.respond_out (v : BitVec 16) (a : BitVec 64) (b : BitVec 32) : (s.respond v a b).out = s.out := rfl
@[simp] theorem State.respond_params (v : BitVec 16) (a : BitVec 64) (b : BitVec 32) : (s.respond v a b).params = s.params := rfl
@[simp] theorem State.respond_host (v : BitVec 16) (a : BitVec 64) (b : BitVec 32) : (s.respond v a b).host = s.host := rfl
@[simp] theorem State.respond_draws (v : BitVec 16) (a : BitVec 64) (b : BitVec 32) : (s.respond v a b).draws = s.draws := rfl

/-! ## clearRb -/

@[simp] theorem State.clearRb_ibuf : (s.clearRb).ibuf = s.ibuf := rfl
@[simp] theorem State.clearRb_ilen : (s.clearRb).ilen = s.ilen := rfl
@[simp] theorem State.clearRb_status : (s.clearRb).status = s.status := rfl
@[simp] theorem State.clearRb_res0 : (s.clearRb).res0 = s.res0 := rfl
@[simp] theorem State.clearRb_res1 : (s.clearRb).res1 = s.res1 := rfl
@[simp] theorem State.clearRb_frBound : (s.clearRb).frBound = s.frBound := rfl
@[simp] theorem State.clearRb_frCur : (s.clearRb).frCur = s.frCur := rfl
@[simp] theorem State.clearRb_cfgVcid : (s.clearRb).cfgVcid = s.cfgVcid := rfl
@[simp] theorem State.clearRb_started : (s.clearRb).started = s.started := rfl
@[simp] theorem State.clearRb_expected : (s.clearRb).expected = s.expected := rfl
@[simp] theorem State.clearRb_rbPresent : (s.clearRb).rbPresent = false := rfl
@[simp] theorem State.clearRb_rb : (s.clearRb).rb = [] := rfl
@[simp] theorem State.clearRb_framesProcessed : (s.clearRb).framesProcessed = s.framesProcessed := rfl
@[simp] theorem State.clearRb_packetsExtracted : (s.clearRb).packetsExtracted = s.packetsExtracted := rfl
@[simp] theorem State.clearRb_framesMissing : (s.clearRb).framesMissing = s.framesMissing := rfl
@[simp] theorem State.clearRb_packetsLost : (s.clearRb).packetsLost = s.packetsLost := rfl
@[simp] theorem State.clearRb_out : (s.clearRb).out = s.out := rfl
@[simp] theorem State.clearRb_params : (s.clearRb).params = s.params := rfl
@[simp] theorem State.clearRb_host : (s.clearRb).host = s.host := rfl
@[simp] theorem State.clearRb_draws : (s.clearRb).draws = s.draws := rfl

/-! ## freshRb -/

@[simp] theorem State.freshRb_ibuf (l : List Byte) : (s.freshRb l).ibuf = s.ibuf := rfl
@[simp] theorem State.freshRb_ilen (l : List Byte) : (s.freshRb l).ilen = s.ilen := rfl
@[simp] theorem State.freshRb_status (l : List Byte) : (s.freshRb l).status = s.status := rfl
@[simp] theorem State.freshRb_res0 (l : List Byte) : (s.freshRb l).res0 = s.res0 := rfl
@[simp] theorem State.freshRb_res1 (l : List Byte) : (s.freshRb l).res1 = s.res1 := rfl
@[simp] theorem State.freshRb_frBound (l : List Byte) : (s.freshRb l).frBound = s.frBound := rfl
@[simp] theorem State.freshRb_frCur (l : List Byte) : (s.freshRb l).frCur = s.frCur := rfl
@[simp] theorem State.freshRb_cfgVcid (l : List Byte) : (s.freshRb l).cfgVcid = s.cfgVcid := rfl
@[simp] theorem State.freshRb_started (l : List Byte) : (s.freshRb l).started = s.started := rfl
@[simp] theorem State.freshRb_expected (l : List Byte) : (s.freshRb l).expected = s.expected := rfl
@[simp] theorem State.freshRb_rbPresent (l : List Byte) : (s.freshRb l).rbPresent = true := rfl
@[simp] theorem State.freshRb_rb (l : List Byte) : (s.freshRb l).rb = l := rfl
@[simp] theorem State.freshRb_framesProcessed (l : List Byte) : (s.freshRb l).framesProcessed = s.framesProcessed := rfl
@[simp] theorem State.freshRb_packetsExtracted (l : List Byte) : (s.freshRb l).packetsExtracted = s.packetsExtracted := rfl
@[simp] theorem State.freshRb_framesMissing (l : List Byte) : (s.freshRb l).framesMissing = s.framesMissing := rfl
@[simp] theorem State.freshRb_packetsLost (l : List Byte) : (s.freshRb l).packetsLost = s.packetsLost := rfl
@[simp] theorem State.freshRb_out (l : List Byte) : (s.freshRb l).out = s.out := rfl
@[simp] theorem State.freshRb_params (l : List Byte) : (s.freshRb l).params = s.params := rfl
@[simp] theorem State.freshRb_host (l : List Byte) : (s.freshRb l).host = s.host := rfl
@[simp] theorem State.freshRb_draws (l : List Byte) : (s.freshRb l).draws = s.draws := rfl

/-! ## appendRb -/

@[simp] theorem State.appendRb_ibuf (l : List Byte) : (s.appendRb l).ibuf = s.ibuf := rfl
@[simp] theorem State.appendRb_ilen (l : List Byte) : (s.appendRb l).ilen = s.ilen := rfl
@[simp] theorem State.appendRb_status (l : List Byte) : (s.appendRb l).status = s.status := rfl
@[simp] theorem State.appendRb_res0 (l : List Byte) : (s.appendRb l).res0 = s.res0 := rfl
@[simp] theorem State.appendRb_res1 (l : List Byte) : (s.appendRb l).res1 = s.res1 := rfl
@[simp] theorem State.appendRb_frBound (l : List Byte) : (s.appendRb l).frBound = s.frBound := rfl
@[simp] theorem State.appendRb_frCur (l : List Byte) : (s.appendRb l).frCur = s.frCur := rfl
@[simp] theorem State.appendRb_cfgVcid (l : List Byte) : (s.appendRb l).cfgVcid = s.cfgVcid := rfl
@[simp] theorem State.appendRb_started (l : List Byte) : (s.appendRb l).started = s.started := rfl
@[simp] theorem State.appendRb_expected (l : List Byte) : (s.appendRb l).expected = s.expected := rfl
@[simp] theorem State.appendRb_rbPresent (l : List Byte) : (s.appendRb l).rbPresent = s.rbPresent := rfl
@[simp] theorem State.appendRb_rb (l : List Byte) : (s.appendRb l).rb = s.rb ++ l := rfl
@[simp] theorem State.appendRb_framesProcessed (l : List Byte) : (s.appendRb l).framesProcessed = s.framesProcessed := rfl
@[simp] theorem State.appendRb_packetsExtracted (l : List Byte) : (s.appendRb l).packetsExtracted = s.packetsExtracted := rfl
@[simp] theorem State.appendRb_framesMissing (l : List Byte) : (s.appendRb l).framesMissing = s.framesMissing := rfl
@[simp] theorem State.appendRb_packetsLost (l : List Byte) : (s.appendRb l).packetsLost = s.packetsLost := rfl
@[simp] theorem State.appendRb_out (l : List Byte) : (s.appendRb l).out = s.out := rfl
@[simp] theorem State.appendRb_params (l : List Byte) : (s.appendRb l).params = s.params := rfl
@[simp] theorem State.appendRb_host (l : List Byte) : (s.appendRb l).host = s.host := rfl
@[simp] theorem State.appendRb_draws (l : List Byte) : (s.appendRb l).draws = s.draws := rfl

/-! ## losePacket -/

@[simp] theorem State.losePacket_ibuf : (s.losePacket).ibuf = s.ibuf := rfl
@[simp] theorem State.losePacket_ilen : (s.losePacket).ilen = s.ilen := rfl
@[simp] theorem State.losePacket_status : (s.losePacket).status = s.status := rfl
@[simp] theorem State.losePacket_res0 : (s.losePacket).res0 = s.res0 := rfl
@[simp] theorem State.losePacket_res1 : (s.losePacket).res1 = s.res1 := rfl
@[simp] theorem State.losePacket_frBound : (s.losePacket).frBound = s.frBound := rfl
@[simp] theorem State.losePacket_frCur : (s.losePacket).frCur = s.frCur := rfl
@[simp] theorem State.losePacket_cfgVcid : (s.losePacket).cfgVcid = s.cfgVcid := rfl
@[simp] theorem State.losePacket_started : (s.losePacket).started = s.started := rfl
@[simp] theorem State.losePacket_expected : (s.losePacket).expected = s.expected := rfl
@[simp] theorem State.losePacket_rbPresent : (s.losePacket).rbPresent = s.rbPresent := rfl
@[simp] theorem State.losePacket_rb : (s.losePacket).rb = s.rb := rfl
@[simp] theorem State.losePacket_framesProcessed : (s.losePacket).framesProcessed = s.framesProcessed := rfl
@[simp] theorem State.losePacket_packetsExtracted : (s.losePacket).packetsExtracted = s.packetsExtracted := rfl
@[simp] theorem State.losePacket_framesMissing : (s.losePacket).framesMissing = s.framesMissing := rfl
@[simp] theorem State.losePacket_packetsLost : (s.losePacket).packetsLost = satAdd s.packetsLost 1 := rfl
@[simp] theorem State.losePacket_out : (s.losePacket).out = s.out := rfl
@[simp] theorem State.losePacket_params : (s.losePacket).params = s.params := rfl
@[simp] theorem State.losePacket_host : (s.losePacket).host = s.host := rfl
@[simp] theorem State.losePacket_draws : (s.losePacket).draws = s.draws := rfl

/-! ## takeAction -/

@[simp] theorem State.takeAction_ibuf (l : List HostAction) : (s.takeAction l).ibuf = s.ibuf := rfl
@[simp] theorem State.takeAction_ilen (l : List HostAction) : (s.takeAction l).ilen = s.ilen := rfl
@[simp] theorem State.takeAction_status (l : List HostAction) : (s.takeAction l).status = s.status := rfl
@[simp] theorem State.takeAction_res0 (l : List HostAction) : (s.takeAction l).res0 = s.res0 := rfl
@[simp] theorem State.takeAction_res1 (l : List HostAction) : (s.takeAction l).res1 = s.res1 := rfl
@[simp] theorem State.takeAction_frBound (l : List HostAction) : (s.takeAction l).frBound = s.frBound := rfl
@[simp] theorem State.takeAction_frCur (l : List HostAction) : (s.takeAction l).frCur = s.frCur := rfl
@[simp] theorem State.takeAction_cfgVcid (l : List HostAction) : (s.takeAction l).cfgVcid = s.cfgVcid := rfl
@[simp] theorem State.takeAction_started (l : List HostAction) : (s.takeAction l).started = s.started := rfl
@[simp] theorem State.takeAction_expected (l : List HostAction) : (s.takeAction l).expected = s.expected := rfl
@[simp] theorem State.takeAction_rbPresent (l : List HostAction) : (s.takeAction l).rbPresent = s.rbPresent := rfl
@[simp] theorem State.takeAction_rb (l : List HostAction) : (s.takeAction l).rb = s.rb := rfl
@[simp] theorem State.takeAction_framesProcessed (l : List HostAction) : (s.takeAction l).framesProcessed = s.framesProcessed := rfl
@[simp] theorem State.takeAction_packetsExtracted (l : List HostAction) : (s.takeAction l).packetsExtracted = s.packetsExtracted := rfl
@[simp] theorem State.takeAction_framesMissing (l : List HostAction) : (s.takeAction l).framesMissing = s.framesMissing := rfl
@[simp] theorem State.takeAction_packetsLost (l : List HostAction) : (s.takeAction l).packetsLost = s.packetsLost := rfl
@[simp] theorem State.takeAction_out (l : List HostAction) : (s.takeAction l).out = s.out := rfl
@[simp] theorem State.takeAction_params (l : List HostAction) : (s.takeAction l).params = s.params := rfl
@[simp] theorem State.takeAction_host (l : List HostAction) : (s.takeAction l).host = l := rfl
@[simp] theorem State.takeAction_draws (l : List HostAction) : (s.takeAction l).draws = s.draws + 1 := rfl

/-! ## hostLoad -/

@[simp] theorem hostLoad_ibuf (l : List Byte) : (hostLoad s l).ibuf = Memory.writeRun s.ibuf 0 l := rfl
@[simp] theorem hostLoad_ilen (l : List Byte) : (hostLoad s l).ilen = BitVec.ofNat 32 l.length := rfl
@[simp] theorem hostLoad_status (l : List Byte) : (hostLoad s l).status = s.status := rfl
@[simp] theorem hostLoad_res0 (l : List Byte) : (hostLoad s l).res0 = s.res0 := rfl
@[simp] theorem hostLoad_res1 (l : List Byte) : (hostLoad s l).res1 = s.res1 := rfl
@[simp] theorem hostLoad_frBound (l : List Byte) : (hostLoad s l).frBound = s.frBound := rfl
@[simp] theorem hostLoad_frCur (l : List Byte) : (hostLoad s l).frCur = s.frCur := rfl
@[simp] theorem hostLoad_cfgVcid (l : List Byte) : (hostLoad s l).cfgVcid = s.cfgVcid := rfl
@[simp] theorem hostLoad_started (l : List Byte) : (hostLoad s l).started = s.started := rfl
@[simp] theorem hostLoad_expected (l : List Byte) : (hostLoad s l).expected = s.expected := rfl
@[simp] theorem hostLoad_rbPresent (l : List Byte) : (hostLoad s l).rbPresent = s.rbPresent := rfl
@[simp] theorem hostLoad_rb (l : List Byte) : (hostLoad s l).rb = s.rb := rfl
@[simp] theorem hostLoad_framesProcessed (l : List Byte) : (hostLoad s l).framesProcessed = s.framesProcessed := rfl
@[simp] theorem hostLoad_packetsExtracted (l : List Byte) : (hostLoad s l).packetsExtracted = s.packetsExtracted := rfl
@[simp] theorem hostLoad_framesMissing (l : List Byte) : (hostLoad s l).framesMissing = s.framesMissing := rfl
@[simp] theorem hostLoad_packetsLost (l : List Byte) : (hostLoad s l).packetsLost = s.packetsLost := rfl
@[simp] theorem hostLoad_out (l : List Byte) : (hostLoad s l).out = s.out := rfl
@[simp] theorem hostLoad_params (l : List Byte) : (hostLoad s l).params = s.params := rfl
@[simp] theorem hostLoad_host (l : List Byte) : (hostLoad s l).host = s.host := rfl
@[simp] theorem hostLoad_draws (l : List Byte) : (hostLoad s l).draws = s.draws := rfl

/-! ## hostWriteIbuf -/

@[simp] theorem hostWriteIbuf_ibuf (o : Nat) (b : Byte) : (hostWriteIbuf s o b).ibuf = Memory.write s.ibuf o b := rfl
@[simp] theorem hostWriteIbuf_ilen (o : Nat) (b : Byte) : (hostWriteIbuf s o b).ilen = s.ilen := rfl
@[simp] theorem hostWriteIbuf_status (o : Nat) (b : Byte) : (hostWriteIbuf s o b).status = s.status := rfl
@[simp] theorem hostWriteIbuf_res0 (o : Nat) (b : Byte) : (hostWriteIbuf s o b).res0 = s.res0 := rfl
@[simp] theorem hostWriteIbuf_res1 (o : Nat) (b : Byte) : (hostWriteIbuf s o b).res1 = s.res1 := rfl
@[simp] theorem hostWriteIbuf_frBound (o : Nat) (b : Byte) : (hostWriteIbuf s o b).frBound = s.frBound := rfl
@[simp] theorem hostWriteIbuf_frCur (o : Nat) (b : Byte) : (hostWriteIbuf s o b).frCur = s.frCur := rfl
@[simp] theorem hostWriteIbuf_cfgVcid (o : Nat) (b : Byte) : (hostWriteIbuf s o b).cfgVcid = s.cfgVcid := rfl
@[simp] theorem hostWriteIbuf_started (o : Nat) (b : Byte) : (hostWriteIbuf s o b).started = s.started := rfl
@[simp] theorem hostWriteIbuf_expected (o : Nat) (b : Byte) : (hostWriteIbuf s o b).expected = s.expected := rfl
@[simp] theorem hostWriteIbuf_rbPresent (o : Nat) (b : Byte) : (hostWriteIbuf s o b).rbPresent = s.rbPresent := rfl
@[simp] theorem hostWriteIbuf_rb (o : Nat) (b : Byte) : (hostWriteIbuf s o b).rb = s.rb := rfl
@[simp] theorem hostWriteIbuf_framesProcessed (o : Nat) (b : Byte) : (hostWriteIbuf s o b).framesProcessed = s.framesProcessed := rfl
@[simp] theorem hostWriteIbuf_packetsExtracted (o : Nat) (b : Byte) : (hostWriteIbuf s o b).packetsExtracted = s.packetsExtracted := rfl
@[simp] theorem hostWriteIbuf_framesMissing (o : Nat) (b : Byte) : (hostWriteIbuf s o b).framesMissing = s.framesMissing := rfl
@[simp] theorem hostWriteIbuf_packetsLost (o : Nat) (b : Byte) : (hostWriteIbuf s o b).packetsLost = s.packetsLost := rfl
@[simp] theorem hostWriteIbuf_out (o : Nat) (b : Byte) : (hostWriteIbuf s o b).out = s.out := rfl
@[simp] theorem hostWriteIbuf_params (o : Nat) (b : Byte) : (hostWriteIbuf s o b).params = s.params := rfl
@[simp] theorem hostWriteIbuf_host (o : Nat) (b : Byte) : (hostWriteIbuf s o b).host = s.host := rfl
@[simp] theorem hostWriteIbuf_draws (o : Nat) (b : Byte) : (hostWriteIbuf s o b).draws = s.draws := rfl

/-! ## hostWriteIlen -/

@[simp] theorem hostWriteIlen_ibuf (n : BitVec 32) : (hostWriteIlen s n).ibuf = s.ibuf := rfl
@[simp] theorem hostWriteIlen_ilen (n : BitVec 32) : (hostWriteIlen s n).ilen = n := rfl
@[simp] theorem hostWriteIlen_status (n : BitVec 32) : (hostWriteIlen s n).status = s.status := rfl
@[simp] theorem hostWriteIlen_res0 (n : BitVec 32) : (hostWriteIlen s n).res0 = s.res0 := rfl
@[simp] theorem hostWriteIlen_res1 (n : BitVec 32) : (hostWriteIlen s n).res1 = s.res1 := rfl
@[simp] theorem hostWriteIlen_frBound (n : BitVec 32) : (hostWriteIlen s n).frBound = s.frBound := rfl
@[simp] theorem hostWriteIlen_frCur (n : BitVec 32) : (hostWriteIlen s n).frCur = s.frCur := rfl
@[simp] theorem hostWriteIlen_cfgVcid (n : BitVec 32) : (hostWriteIlen s n).cfgVcid = s.cfgVcid := rfl
@[simp] theorem hostWriteIlen_started (n : BitVec 32) : (hostWriteIlen s n).started = s.started := rfl
@[simp] theorem hostWriteIlen_expected (n : BitVec 32) : (hostWriteIlen s n).expected = s.expected := rfl
@[simp] theorem hostWriteIlen_rbPresent (n : BitVec 32) : (hostWriteIlen s n).rbPresent = s.rbPresent := rfl
@[simp] theorem hostWriteIlen_rb (n : BitVec 32) : (hostWriteIlen s n).rb = s.rb := rfl
@[simp] theorem hostWriteIlen_framesProcessed (n : BitVec 32) : (hostWriteIlen s n).framesProcessed = s.framesProcessed := rfl
@[simp] theorem hostWriteIlen_packetsExtracted (n : BitVec 32) : (hostWriteIlen s n).packetsExtracted = s.packetsExtracted := rfl
@[simp] theorem hostWriteIlen_framesMissing (n : BitVec 32) : (hostWriteIlen s n).framesMissing = s.framesMissing := rfl
@[simp] theorem hostWriteIlen_packetsLost (n : BitVec 32) : (hostWriteIlen s n).packetsLost = s.packetsLost := rfl
@[simp] theorem hostWriteIlen_out (n : BitVec 32) : (hostWriteIlen s n).out = s.out := rfl
@[simp] theorem hostWriteIlen_params (n : BitVec 32) : (hostWriteIlen s n).params = s.params := rfl
@[simp] theorem hostWriteIlen_host (n : BitVec 32) : (hostWriteIlen s n).host = s.host := rfl
@[simp] theorem hostWriteIlen_draws (n : BitVec 32) : (hostWriteIlen s n).draws = s.draws := rfl

/-! ## hostReset -/

@[simp] theorem hostReset_ibuf (v : BitVec 3) : (hostReset s v).ibuf = [] := rfl
@[simp] theorem hostReset_ilen (v : BitVec 3) : (hostReset s v).ilen = 0#32 := rfl
@[simp] theorem hostReset_status (v : BitVec 3) : (hostReset s v).status = 0#16 := rfl
@[simp] theorem hostReset_res0 (v : BitVec 3) : (hostReset s v).res0 = 0#64 := rfl
@[simp] theorem hostReset_res1 (v : BitVec 3) : (hostReset s v).res1 = 0#32 := rfl
@[simp] theorem hostReset_frBound (v : BitVec 3) : (hostReset s v).frBound = false := rfl
@[simp] theorem hostReset_frCur (v : BitVec 3) : (hostReset s v).frCur = Config.resetFrCur := rfl
@[simp] theorem hostReset_cfgVcid (v : BitVec 3) : (hostReset s v).cfgVcid = v := rfl
@[simp] theorem hostReset_started (v : BitVec 3) : (hostReset s v).started = false := rfl
@[simp] theorem hostReset_expected (v : BitVec 3) : (hostReset s v).expected = Config.resetExpected := rfl
@[simp] theorem hostReset_rbPresent (v : BitVec 3) : (hostReset s v).rbPresent = false := rfl
@[simp] theorem hostReset_rb (v : BitVec 3) : (hostReset s v).rb = [] := rfl
@[simp] theorem hostReset_framesProcessed (v : BitVec 3) : (hostReset s v).framesProcessed = 0#32 := rfl
@[simp] theorem hostReset_packetsExtracted (v : BitVec 3) : (hostReset s v).packetsExtracted = 0#32 := rfl
@[simp] theorem hostReset_framesMissing (v : BitVec 3) : (hostReset s v).framesMissing = 0#32 := rfl
@[simp] theorem hostReset_packetsLost (v : BitVec 3) : (hostReset s v).packetsLost = 0#32 := rfl
@[simp] theorem hostReset_out (v : BitVec 3) : (hostReset s v).out = [] := rfl
@[simp] theorem hostReset_params (v : BitVec 3) : (hostReset s v).params = s.params := rfl
@[simp] theorem hostReset_host (v : BitVec 3) : (hostReset s v).host = s.host := rfl
@[simp] theorem hostReset_draws (v : BitVec 3) : (hostReset s v).draws = s.draws := rfl

/-! ## succeed, fail, commit in terms of respond -/

@[simp] theorem State.succeed_eq_respond (a : BitVec 64) (b : BitVec 32) : s.succeed a b = s.respond 0#16 a b := rfl

@[simp] theorem State.fail_eq_respond (cls : ErrClass) :
    s.fail cls = s.respond (statusWord 0#8 0#4 cls.code) 0#64 0#32 := rfl

@[simp] theorem State.respond_respond (v v' : BitVec 16) (a a' : BitVec 64) (b b' : BitVec 32) :
    (s.respond v a b).respond v' a' b' = s.respond v' a' b' := rfl

@[simp] theorem State.respond_self : s.respond s.status s.res0 s.res1 = s := rfl

@[simp] theorem State.commit_ibuf (events : List Event) : (s.commit events).ibuf = s.ibuf := rfl
@[simp] theorem State.commit_ilen (events : List Event) : (s.commit events).ilen = s.ilen := rfl
@[simp] theorem State.commit_status (events : List Event) : (s.commit events).status = 0#16 := rfl
@[simp] theorem State.commit_res0 (events : List Event) : (s.commit events).res0 = BitVec.ofNat 64 (events.countP Event.isEmit) := rfl
@[simp] theorem State.commit_res1 (events : List Event) : (s.commit events).res1 = BitVec.ofNat 32 (events.countP Event.isDiag) := rfl
@[simp] theorem State.commit_frBound (events : List Event) : (s.commit events).frBound = s.frBound := rfl
@[simp] theorem State.commit_frCur (events : List Event) : (s.commit events).frCur = s.frCur := rfl
@[simp] theorem State.commit_cfgVcid (events : List Event) : (s.commit events).cfgVcid = s.cfgVcid := rfl
@[simp] theorem State.commit_started (events : List Event) : (s.commit events).started = s.started := rfl
@[simp] theorem State.commit_expected (events : List Event) : (s.commit events).expected = s.expected := rfl
@[simp] theorem State.commit_rbPresent (events : List Event) : (s.commit events).rbPresent = s.rbPresent := rfl
@[simp] theorem State.commit_rb (events : List Event) : (s.commit events).rb = s.rb := rfl
@[simp] theorem State.commit_framesProcessed (events : List Event) : (s.commit events).framesProcessed = s.framesProcessed := rfl
@[simp] theorem State.commit_packetsExtracted (events : List Event) : (s.commit events).packetsExtracted = s.packetsExtracted := rfl
@[simp] theorem State.commit_framesMissing (events : List Event) : (s.commit events).framesMissing = s.framesMissing := rfl
@[simp] theorem State.commit_packetsLost (events : List Event) : (s.commit events).packetsLost = s.packetsLost := rfl
@[simp] theorem State.commit_out (events : List Event) : (s.commit events).out = s.out ++ events := rfl
@[simp] theorem State.commit_params (events : List Event) : (s.commit events).params = s.params := rfl
@[simp] theorem State.commit_host (events : List Event) : (s.commit events).host = s.host := rfl
@[simp] theorem State.commit_draws (events : List Event) : (s.commit events).draws = s.draws := rfl

/-! ## The work of X.ADD -/

@[simp] theorem AddWork.diag_st (c : DiagCode) (x y : Nat) : (w.diag c x y).st = w.st := rfl
@[simp] theorem AddWork.diag_first (c : DiagCode) (x y : Nat) : (w.diag c x y).first = w.first := rfl
@[simp] theorem AddWork.diag_gap (c : DiagCode) (x y : Nat) : (w.diag c x y).gap = w.gap := rfl
@[simp] theorem AddWork.diag_pos (c : DiagCode) (x y : Nat) : (w.diag c x y).pos = w.pos := rfl
@[simp] theorem AddWork.diag_rem (c : DiagCode) (x y : Nat) : (w.diag c x y).rem = w.rem := rfl
@[simp] theorem AddWork.diag_events (c : DiagCode) (x y : Nat) : (w.diag c x y).events = w.events ++ [diagEvent w.st.params c x y []] := rfl
@[simp] theorem AddWork.emit_st (l : List Byte) (r : Bool) : (w.emit l r).st = { w.st with packetsExtracted := satAdd w.st.packetsExtracted 1 } := rfl
@[simp] theorem AddWork.emit_first (l : List Byte) (r : Bool) : (w.emit l r).first = w.first := rfl
@[simp] theorem AddWork.emit_gap (l : List Byte) (r : Bool) : (w.emit l r).gap = w.gap := rfl
@[simp] theorem AddWork.emit_pos (l : List Byte) (r : Bool) : (w.emit l r).pos = w.pos := rfl
@[simp] theorem AddWork.emit_rem (l : List Byte) (r : Bool) : (w.emit l r).rem = w.rem := rfl
@[simp] theorem AddWork.emit_events (l : List Byte) (r : Bool) : (w.emit l r).events = w.events ++ [emitEvent l r] := rfl
@[simp] theorem AddWork.lose_st : (w.lose).st = w.st.losePacket := rfl
@[simp] theorem AddWork.lose_first : (w.lose).first = w.first := rfl
@[simp] theorem AddWork.lose_gap : (w.lose).gap = w.gap := rfl
@[simp] theorem AddWork.lose_pos : (w.lose).pos = w.pos := rfl
@[simp] theorem AddWork.lose_rem : (w.lose).rem = w.rem := rfl
@[simp] theorem AddWork.lose_events : (w.lose).events = w.events := rfl
@[simp] theorem AddWork.clear_st : (w.clear).st = w.st.clearRb := rfl
@[simp] theorem AddWork.clear_first : (w.clear).first = w.first := rfl
@[simp] theorem AddWork.clear_gap : (w.clear).gap = w.gap := rfl
@[simp] theorem AddWork.clear_pos : (w.clear).pos = w.pos := rfl
@[simp] theorem AddWork.clear_rem : (w.clear).rem = w.rem := rfl
@[simp] theorem AddWork.clear_events : (w.clear).events = w.events := rfl
@[simp] theorem AddWork.fresh_st (l : List Byte) : (w.fresh l).st = w.st.freshRb l := rfl
@[simp] theorem AddWork.fresh_first (l : List Byte) : (w.fresh l).first = w.first := rfl
@[simp] theorem AddWork.fresh_gap (l : List Byte) : (w.fresh l).gap = w.gap := rfl
@[simp] theorem AddWork.fresh_pos (l : List Byte) : (w.fresh l).pos = w.pos := rfl
@[simp] theorem AddWork.fresh_rem (l : List Byte) : (w.fresh l).rem = w.rem := rfl
@[simp] theorem AddWork.fresh_events (l : List Byte) : (w.fresh l).events = w.events := rfl
@[simp] theorem AddWork.skip_st (n : Nat) : (w.skip n).st = w.st := rfl
@[simp] theorem AddWork.skip_first (n : Nat) : (w.skip n).first = w.first := rfl
@[simp] theorem AddWork.skip_gap (n : Nat) : (w.skip n).gap = w.gap := rfl
@[simp] theorem AddWork.skip_pos (n : Nat) : (w.skip n).pos = w.pos + n := rfl
@[simp] theorem AddWork.skip_rem (n : Nat) : (w.skip n).rem = w.rem - n := rfl
@[simp] theorem AddWork.skip_events (n : Nat) : (w.skip n).events = w.events := rfl

end Sys2Proof.Machine
end

