-- ==== Sys2Proof/Laws/Memory.lean ====
section
/-! SUPPORT. The laws of the input buffer: a read after a write, the canonical form, and what a view reads. -/

namespace Sys2Proof.Machine

theorem Memory.lookup_write_same (m : List Host.Cell) (o : Nat) (b : Byte) :
    Memory.lookup (Memory.write m o b) o = some b := by
  induction m with
  | nil => simp [Memory.write, Memory.lookup]
  | cons c m ih =>
    obtain ⟨a, x⟩ := c
    unfold Memory.write
    split
    · simp [Memory.lookup]
    · split
      · simp [Memory.lookup]
      · rename_i h1 h2
        simp [Memory.lookup, ih, Ne.symm h2]

theorem Memory.lookup_write_other (m : List Host.Cell) (o o' : Nat) (b : Byte) (h : o' ≠ o) :
    Memory.lookup (Memory.write m o b) o' = Memory.lookup m o' := by
  induction m with
  | nil => simp [Memory.write, Memory.lookup, Ne.symm h]
  | cons c m ih =>
    obtain ⟨a, x⟩ := c
    unfold Memory.write
    split
    · simp [Memory.lookup, Ne.symm h]
    · split
      · rename_i h1 h2
        subst h2
        simp [Memory.lookup, Ne.symm h]
      · simp [Memory.lookup, ih]

/-- The offsets listed after a write are those listed before, and the one written. -/
theorem Memory.mem_keys_write (m : List Host.Cell) (o : Nat) (b : Byte) (a : Nat) :
    a ∈ (Memory.write m o b).map Prod.fst ↔ a = o ∨ a ∈ m.map Prod.fst := by
  induction m with
  | nil => simp [Memory.write]
  | cons c m ih =>
    obtain ⟨k, x⟩ := c
    unfold Memory.write
    split
    · simp
    · split
      · rename_i h1 h2
        subst h2
        simp
      · rw [List.map_cons, List.mem_cons, ih, List.map_cons, List.mem_cons]
        tauto

/-- A write keeps the canonical form. -/
theorem Memory.wf_write (m : List Host.Cell) (o : Nat) (b : Byte) (h : Memory.wf m) :
    Memory.wf (Memory.write m o b) := by
  induction m with
  | nil => simp [Memory.write, Memory.wf]
  | cons c m ih =>
    obtain ⟨k, x⟩ := c
    unfold Memory.wf at h ih ⊢
    rw [List.map_cons, List.pairwise_cons] at h
    obtain ⟨hk, hm⟩ := h
    unfold Memory.write
    split
    · rename_i h1
      rw [List.map_cons, List.map_cons, List.pairwise_cons, List.pairwise_cons]
      refine ⟨fun a ha => ?_, hk, hm⟩
      rcases List.mem_cons.1 ha with rfl | ha
      · exact h1
      · exact lt_trans h1 (hk a ha)
    · split
      · rename_i h1 h2
        subst h2
        rw [List.map_cons, List.pairwise_cons]
        exact ⟨hk, hm⟩
      · rename_i h1 h2
        rw [List.map_cons, List.pairwise_cons]
        refine ⟨fun a ha => ?_, ih hm⟩
        rcases (Memory.mem_keys_write m o b a).1 ha with rfl | ha
        · exact lt_of_le_of_ne (Nat.le_of_not_lt h1) (Ne.symm h2)
        · exact hk a ha

theorem Memory.wf_writeRun (m : List Host.Cell) (o : Nat) (l : List Byte) (h : Memory.wf m) :
    Memory.wf (Memory.writeRun m o l) := by
  induction l generalizing m o with
  | nil => exact h
  | cons b l ih => exact ih _ _ (Memory.wf_write m o b h)

theorem Memory.mem_keys_writeRun (m : List Host.Cell) (o : Nat) (l : List Byte) (a : Nat) :
    a ∈ (Memory.writeRun m o l).map Prod.fst ↔ (o ≤ a ∧ a < o + l.length) ∨ a ∈ m.map Prod.fst := by
  induction l generalizing m o with
  | nil => simp [Memory.writeRun]
  | cons b l ih =>
    rw [Memory.writeRun, ih, Memory.mem_keys_write, List.length_cons]
    constructor
    · rintro (h | rfl | h)
      · exact .inl ⟨by omega, by omega⟩
      · exact .inl ⟨by omega, by omega⟩
      · exact .inr h
    · rintro (h | h)
      · by_cases e : a = o
        · exact .inr (.inl e)
        · exact .inl ⟨by omega, by omega⟩
      · exact .inr (.inr h)

/-- What a run of writes leaves at an offset: the byte of the run there, else what was there before. -/
theorem Memory.lookup_writeRun (m : List Host.Cell) (o : Nat) (l : List Byte) (a : Nat) :
    Memory.lookup (Memory.writeRun m o l) a =
      if o ≤ a ∧ a < o + l.length then l[a - o]? else Memory.lookup m a := by
  induction l generalizing m o with
  | nil =>
    rw [Memory.writeRun, if_neg (by simp)]
  | cons b l ih =>
    rw [Memory.writeRun, ih]
    by_cases e : a = o
    · subst e
      rw [if_neg (by omega), if_pos (by simp), Memory.lookup_write_same]
      simp
    · rw [Memory.lookup_write_other _ _ _ _ e]
      by_cases h : o + 1 ≤ a ∧ a < o + 1 + l.length
      · rw [if_pos h, if_pos (by simp; omega)]
        have : a - o = (a - (o + 1)) + 1 := by omega
        rw [this, List.getElem?_cons_succ]
      · rw [if_neg h, if_neg (by simp; omega)]

/-- An offset is listed exactly when it can be looked up. -/
theorem Memory.lookup_isSome (m : List Host.Cell) (a : Nat) :
    (Memory.lookup m a).isSome = true ↔ a ∈ m.map Prod.fst := by
  induction m with
  | nil => simp [Memory.lookup]
  | cons c m ih =>
    obtain ⟨k, x⟩ := c
    unfold Memory.lookup
    split
    · rename_i h
      simp [h]
    · rename_i h
      rw [ih, List.map_cons, List.mem_cons]
      simp [Ne.symm h]

theorem Memory.wf_reset : Memory.wf State.reset.ibuf := by decide

/-- A read of a written byte gives the byte the host wrote, whatever the read and the draw (R53, R55). -/
theorem State.view_of_written (s : State) (r : ReadSite) (o : Nat) (h : s.written o) : s.view r o = s.bytes o := by
  unfold State.view State.bytes
  unfold State.written at h
  cases e : Memory.lookup s.ibuf o with
  | none => simp [e] at h
  | some b => simp

/-- After a LOAD every read below `ILEN` gives the byte loaded there. -/
theorem hostLoad_view (s : State) (l : List Byte) (r : ReadSite) (o : Nat) (h : o < l.length) :
    (hostLoad s l).view r o = l.getD o 0#8 := by
  have e : Memory.lookup (hostLoad s l).ibuf o = some l[o] := by
    rw [hostLoad_ibuf, Memory.lookup_writeRun, if_pos ⟨Nat.zero_le _, by omega⟩]
    simp [h]
  unfold State.view
  rw [e]
  simp [h]

/-- A state whose `ILEN` bytes are all written meets the host's duty. -/
theorem State.hostDuty_of_loaded (s : State) (h : s.loaded) : s.hostDuty := fun _ _ _ _ => h

/-- Before anything but an X.ADD the host's duty asks nothing. -/
theorem State.hostDuty_of_not_xAdd (s : State) (h : ∀ rest, s.host ≠ .command (encode .xAdd) :: rest) : s.hostDuty :=
  fun rest hs _ _ => absurd hs (h rest)

end Sys2Proof.Machine
end

