-- ==== Sys2Proof/Laws/Operands.lean ====
section
/-! SUPPORT. The laws of big-endian integers and of runs of bytes (R8, R44, R46), and the bounds of a packet length (R69). -/

namespace Sys2Proof.Machine

@[simp] theorem be_zero (B : View) (i : Nat) : be B i 0 = 0 := rfl

theorem be_succ (B : View) (i n : Nat) : be B i (n + 1) = be B i n * 256 + (B (i + n)).toNat := rfl

theorem be_one (B : View) (i : Nat) : be B i 1 = (B i).toNat := by simp [be]

theorem be_two (B : View) (i : Nat) : be B i 2 = (B i).toNat * 256 + (B (i + 1)).toNat := by simp [be]

theorem be_lt (B : View) (i n : Nat) : be B i n < 256 ^ n := by
  induction n with
  | zero => simp
  | succ n ih =>
    have := (B (i + n)).isLt
    rw [be_succ, pow_succ]
    omega

/-- `BE` depends on the bytes it reads only. -/
theorem be_congr (B C : View) (i j n : Nat) (h : ∀ k < n, B (i + k) = C (j + k)) : be B i n = be C j n := by
  induction n with
  | zero => rfl
  | succ n ih =>
    rw [be_succ, be_succ, ih (fun k hk => h k (by omega)), h n (by omega)]

@[simp] theorem run_zero (B : View) (i : Nat) : run B i 0 = [] := rfl

theorem run_succ (B : View) (i n : Nat) : run B i (n + 1) = B i :: run B (i + 1) n := rfl

@[simp] theorem run_length (B : View) (i n : Nat) : (run B i n).length = n := by
  induction n generalizing i with
  | zero => rfl
  | succ n ih => rw [run_succ, List.length_cons, ih]

theorem run_getElem? (B : View) (i n k : Nat) (h : k < n) : (run B i n)[k]? = some (B (i + k)) := by
  induction n generalizing i k with
  | zero => omega
  | succ n ih =>
    rw [run_succ]
    cases k with
    | zero => simp
    | succ k =>
      rw [List.getElem?_cons_succ, ih (i + 1) k (by omega)]
      congr 2
      omega

/-- A run depends on the bytes it reads only. -/
theorem run_congr (B C : View) (i j n : Nat) (h : ∀ k < n, B (i + k) = C (j + k)) : run B i n = run C j n := by
  induction n generalizing i j with
  | zero => rfl
  | succ n ih =>
    rw [run_succ, run_succ]
    congr 1
    · simpa using h 0 (by omega)
    · refine ih _ _ (fun k hk => ?_)
      have := h (k + 1) (by omega)
      rw [show i + 1 + k = i + (k + 1) by omega, show j + 1 + k = j + (k + 1) by omega]
      exact this

/-- A run as an operand reads the bytes it was copied from. -/
theorem listView_run (B : View) (i n k : Nat) (h : k < n) : listView (run B i n) k = B (i + k) := by
  unfold listView
  rw [List.getD_eq_getElem?_getD, run_getElem? B i n k h]
  rfl

theorem listView_take (l : List Byte) (n k : Nat) (h : k < n) : listView (l.take n) k = listView l k := by
  unfold listView
  rw [List.getD_eq_getElem?_getD, List.getD_eq_getElem?_getD, List.getElem?_take_of_lt h]

theorem packetLength_ge (P : View) : 7 ≤ packetLength P := by
  unfold packetLength
  omega

theorem packetLength_le (P : View) : packetLength P ≤ 65542 := by
  have := be_lt P 4 2
  unfold packetLength
  omega

/-- The packet length is read from offsets 4 and 5 only (R68, R69). -/
theorem packetLength_congr (P Q : View) (h4 : P 4 = Q 4) (h5 : P 5 = Q 5) : packetLength P = packetLength Q := by
  unfold packetLength
  rw [be_two, be_two, h4, h5]

end Sys2Proof.Machine
end

