-- ==== Sys2Proof/Laws/Commands.lean ====
section
/-! SUPPORT. What each shared operation of the commands can do, said once. -/

namespace Sys2Proof.Machine

/-- R92, R93: FR.RDn fails in one of three ways, in this order, or reads and moves the cursor. -/
theorem fieldRead_cases (n : Nat) (s : State) :
    (s.params.ibufCap < s.len ∧ fieldRead n s = .next (s.fail .invalidArgument)) ∨
    (s.len ≤ s.params.ibufCap ∧ s.frBound = false ∧ fieldRead n s = .next (s.fail .invalidArgument)) ∨
    (s.len ≤ s.params.ibufCap ∧ s.frBound = true ∧ s.len < s.frCur.toNat + n ∧
      fieldRead n s = .next (s.fail .outOfBounds)) ∨
    (s.len ≤ s.params.ibufCap ∧ s.frBound = true ∧ s.frCur.toNat + n ≤ s.len ∧
      fieldRead n s = .next (({ s with frCur := BitVec.ofNat 32 (s.frCur.toNat + n) }).respond 0#16
        (BitVec.ofNat 64 (be (s.view .field) s.frCur.toNat n)) 0#32)) := by
  unfold fieldRead
  split
  · exact .inl ⟨‹_›, rfl⟩
  · refine .inr ?_
    split
    · exact .inl ⟨by omega, ‹_›, rfl⟩
    · refine .inr ?_
      have hb : s.frBound = true := by simpa using ‹¬ s.frBound = false›
      split
      · exact .inl ⟨by omega, hb, ‹_›, rfl⟩
      · exact .inr ⟨by omega, hb, by omega, rfl⟩

/-- R101, R102: an accessor of a frame fails on what is no frame, and else answers its value. -/
theorem frameAccessor_cases (s : State) (v : BitVec 64) :
    (¬ s.frameOk ∧ frameAccessor s v = .next (s.fail .invalidArgument)) ∨
    (s.frameOk ∧ frameAccessor s v = .next (s.respond 0#16 v 0#32)) := by
  unfold frameAccessor
  split
  · exact .inr ⟨‹_›, rfl⟩
  · exact .inl ⟨‹_›, rfl⟩

/-- R121, R122: an accessor of a packet fails on what is no packet, or on a buffer too short for its bytes, and else
answers its value. -/
theorem packetAccessor_cases (s : State) (n : Nat) (v : BitVec 64) :
    (¬ s.packetOk ∧ packetAccessor s n v = .next (s.fail .invalidArgument)) ∨
    (s.packetOk ∧ s.len < n ∧ packetAccessor s n v = .next (s.fail .outOfBounds)) ∨
    (s.packetOk ∧ n ≤ s.len ∧ packetAccessor s n v = .next (s.respond 0#16 v 0#32)) := by
  unfold packetAccessor
  split
  · refine .inr ?_
    split
    · exact .inl ⟨‹_›, ‹_›, rfl⟩
    · exact .inr ⟨‹_›, by omega, rfl⟩
  · exact .inl ⟨‹_›, rfl⟩

/-- The view of a state reads its `IBUF` and its draw number only. -/
theorem State.view_congr {s t : State} (hi : t.ibuf = s.ibuf) (hd : t.draws = s.draws) : t.view = s.view := by
  unfold State.view
  rw [hi, hd]

@[simp] theorem State.respond_view (s : State) (v : BitVec 16) (a : BitVec 64) (b : BitVec 32) :
    (s.respond v a b).view = s.view := rfl

@[simp] theorem State.respond_len (s : State) (v : BitVec 16) (a : BitVec 64) (b : BitVec 32) :
    (s.respond v a b).len = s.len := rfl

/-! ## Events -/

@[simp] theorem emitEvent_isEmit (l : List Byte) (r : Bool) : (emitEvent l r).isEmit = true := rfl

@[simp] theorem emitEvent_isDiag (l : List Byte) (r : Bool) : (emitEvent l r).isDiag = false := rfl

@[simp] theorem emitEvent_isReconstructed (l : List Byte) (r : Bool) : (emitEvent l r).isReconstructed = r := rfl

@[simp] theorem diagEvent_isEmit (p : Params) (c : DiagCode) (x y : Nat) (l : List Byte) :
    (diagEvent p c x y l).isEmit = false := rfl

@[simp] theorem diagEvent_isDiag (p : Params) (c : DiagCode) (x y : Nat) (l : List Byte) :
    (diagEvent p c x y l).isDiag = true := rfl

@[simp] theorem diagEvent_isReconstructed (p : Params) (c : DiagCode) (x y : Nat) (l : List Byte) :
    (diagEvent p c x y l).isReconstructed = false := rfl

@[simp] theorem diagEvent_whole (p : Params) (c : DiagCode) (x y : Nat) (l : List Byte) :
    (diagEvent p c x y l).whole := trivial

/-- R30: every event is a packet or a diagnostic. -/
theorem Event.isDiag_eq (e : Event) : e.isDiag = !e.isEmit := by cases e <;> rfl

/-- R13: the response of an error has the form of `STATUS`. -/
theorem statusForm_fail (cls : ErrClass) (h3 : cls ≠ .malformedFrame) (h4 : cls ≠ .malformedPacket) :
    statusForm (statusWord 0#8 0#4 cls.code) := by
  cases cls <;> first | contradiction | decide

end Sys2Proof.Machine
end

