-- ==== Sys2Proof/Laws/Extractor.lean ====
section
/-! SUPPORT. What the steps of X.ADD do: step 2 whole, the loop of step 6 as the relation `ZoneRun`, and its turns. -/

namespace Sys2Proof.Machine

/-- R172: with no byte left the loop of step 6 does nothing. -/
theorem addPackets_rem_zero (F : ReadSite → View) (fuel : Nat) (w : AddWork) (h : w.rem = 0) :
    addPackets F fuel w = w := by
  cases fuel with
  | zero => rfl
  | succ n => rw [addPackets, if_pos h]

/-- R166 to R171: what the loop of step 6 does, whenever its fuel covers the bytes: it cuts the data zone as `ZoneRun`
says, appends those events, counts the packets among them, and leaves what is pending in the reassembly buffer. -/
theorem addPackets_zoneRun (F : ReadSite → View) (fuel : Nat) (w : AddWork) (h : w.rem ≤ fuel) :
    ∃ events pending, ZoneRun F w.st.params w.pos w.rem events pending ∧
      (addPackets F fuel w).events = w.events ++ events ∧
      (addPackets F fuel w).st = { w.st with
        packetsExtracted := satAdd w.st.packetsExtracted (events.countP Event.isEmit)
        rbPresent := w.st.rbPresent || pending.isSome
        rb := pending.getD w.st.rb } := by
  induction fuel generalizing w with
  | zero =>
    have h0 : w.rem = 0 := by omega
    exact ⟨[], none, h0 ▸ ZoneRun.done w.pos, by simp [addPackets], by simp [addPackets]⟩
  | succ n ih =>
    rw [addPackets]
    by_cases h0 : w.rem = 0
    · rw [if_pos h0]
      exact ⟨[], none, h0 ▸ ZoneRun.done w.pos, by simp, by simp⟩
    rw [if_neg h0]
    by_cases h7 : w.rem < 7
    · rw [if_pos h7]
      exact ⟨[], some _, .short _ _ (by omega) h7, by simp, by simp [AddWork.fresh, State.freshRb]⟩
    rw [if_neg h7]
    dsimp only
    by_cases hi : packetLength (shiftView (F .addPeek) w.pos) = 7 ∧ be (F .addIdle) (w.pos + 5) 2 = 0
    · rw [if_pos hi]
      exact ⟨[_], none, .idle _ _ (by omega) hi.1 hi.2, by simp, by simp⟩
    rw [if_neg hi]
    have hge := packetLength_ge (shiftView (F .addPeek) w.pos)
    by_cases hf : packetLength (shiftView (F .addPeek) w.pos) ≤ w.rem
    · rw [if_pos hf]
      obtain ⟨events, pending, hz, he, hs⟩ := ih ((w.emit (run (F .addPacket) w.pos
        (packetLength (shiftView (F .addPeek) w.pos))) false).skip (packetLength (shiftView (F .addPeek) w.pos)))
        (by simp; omega)
      refine ⟨_ :: events, pending, .packet _ _ _ _ _ (by omega) rfl hi hf hz, ?_, ?_⟩
      · rw [he]
        simp
      · rw [hs]
        simp [satAdd_satAdd, Nat.add_comm, List.countP_cons]
    · rw [if_neg hf]
      exact ⟨[], some _, .tail _ _ (by omega) (by omega), by simp, by simp [AddWork.fresh, State.freshRb]⟩

/-- R155: step 2 of X.ADD as one update of the state, for a reassembly buffer that is empty when absent. -/
theorem addCount_eq (s : State) (n : Nat) (hrb : s.rbPresent = false → s.rbLen = 0) :
    addCount (frameVcfc (s.view .addCounter)) (addBegin s n) =
      { st := { s with
          framesProcessed := satAdd s.framesProcessed 1
          started := true
          framesMissing := satAdd s.framesMissing s.missed.toNat
          expected := frameVcfc (s.view .addCounter) + 1#8
          packetsLost := satAdd s.packetsLost s.gapLost
          rbPresent := s.stillPending
          rb := if s.stillPending then s.rb else [] }
        first := !s.started
        gap := s.missed != 0#8
        pos := 10
        rem := n
        events := s.gapEvents } := by
  have hrb' : s.rbPresent = false → s.rb = [] := fun h => List.eq_nil_of_length_eq_zero (hrb h)
  unfold addCount addContinuity
  cases hst : s.started
  · cases hp : s.rbPresent <;>
      simp [addBegin, hst, hp, State.gapLost, State.stillPending, State.gapEvents, State.missed, hrb']
  · by_cases hm : frameVcfc (s.view .addCounter) - s.expected = 0#8
    · cases hp : s.rbPresent <;>
        simp [addBegin, hst, hp, State.gapLost, State.stillPending, State.gapEvents, State.missed, hrb', hm]
    · cases hp : s.rbPresent <;>
        simp [addBegin, hst, hp, State.gapLost, State.stillPending, State.gapEvents, State.missed, hrb', hm,
          AddWork.clear, AddWork.lose, State.clearRb, State.losePacket, AddWork.diag]

/-- R163: the end of step 5c for a buffer that holds its packet. -/
theorem addComplete_complete (fhp : BitVec 11) (w : AddWork)
    (h : 7 ≤ w.st.rbLen ∧ packetLength (listView w.st.rb) ≤ w.st.rbLen) :
    addComplete fhp w = (w.emit (w.st.rb.take (packetLength (listView w.st.rb))) true).clear := by
  unfold addComplete
  exact if_pos h

/-- R165: the end of step 5c for a buffer that does not, in a frame in which no packet starts. -/
theorem addComplete_kept (w : AddWork) (h : ¬ (7 ≤ w.st.rbLen ∧ packetLength (listView w.st.rb) ≤ w.st.rbLen)) :
    addComplete fhpNoPacketStart w = w := by
  unfold addComplete
  exact (if_neg h).trans (if_pos rfl)

/-- R165: the end of step 5c for a buffer that does not, in a frame in which its packet should have ended. -/
theorem addComplete_lost (fhp : BitVec 11) (w : AddWork)
    (h : ¬ (7 ≤ w.st.rbLen ∧ packetLength (listView w.st.rb) ≤ w.st.rbLen)) (hn : fhp ≠ fhpNoPacketStart) :
    addComplete fhp w = (w.diag .packetIncomplete w.st.rbLen
      (if 7 ≤ w.st.rbLen then packetLength (listView w.st.rb) - w.st.rbLen else 0xFFFFFFFF)).clear.lose := by
  unfold addComplete
  exact (if_neg h).trans (if_neg hn)

/-- R151, R173: X.ADD on an accepted frame. -/
theorem execXAdd_accepted (s : State) (h : s.addAccepts) :
    execXAdd s = .next ((addAccepted s (frameVcfc (s.view .addCounter)) s.fhp s.zoneLength).st.commit
      (addAccepted s (frameVcfc (s.view .addCounter)) s.fhp s.zoneLength).events) := by
  obtain ⟨h1, h2, h3⟩ := h
  unfold execXAdd
  rw [if_pos h1, if_neg (by simpa using h2), if_neg h3]
  rfl

/-- R152: X.ADD on a frame that is not accepted changes the response only. -/
theorem execXAdd_rejected (s : State) (h : ¬ s.addAccepts) :
    ∃ cls, cls ≠ ErrClass.malformedFrame ∧ cls ≠ .malformedPacket ∧ execXAdd s = .next (s.fail cls) := by
  unfold execXAdd
  by_cases h1 : s.frameOk
  · by_cases h2 : frameVcid (s.view .addVcid) = s.cfgVcid
    · refine ⟨.outOfBounds, by decide, by decide, ?_⟩
      rw [if_pos h1, if_neg (by simpa using h2), if_pos]
      by_contra h3
      exact h ⟨h1, h2, h3⟩
    · exact ⟨.wrongChannel, by decide, by decide, by rw [if_pos h1, if_pos h2]⟩
  · exact ⟨.invalidArgument, by decide, by decide, by rw [if_neg h1]⟩

end Sys2Proof.Machine
end

