-- ==== Sys2Proof/Laws/PerInstr.lean ====
section
/-! SUPPORT. Two facts about every command, one lemma per constructor: its opcode decodes to it (spec/30_encoding.md R72, R73),
and its opcode is one that the unit and operation ranges assign (R73). -/

namespace Sys2Proof.Laws

/-- R72, R73: the opcode of the command decodes to the command. -/
def RoundTrip.Statement (i : Instr) : Prop := decode (encode i) = .ok i

/-- R73: the opcode of the command lies in the ranges that R72 assigns. -/
def OpcodeAssigned.Statement (i : Instr) : Prop := opcodeAssigned (encode i) = true

theorem RoundTrip.frBind : RoundTrip.Statement .frBind := rfl
theorem RoundTrip.frRd1 : RoundTrip.Statement .frRd1 := rfl
theorem RoundTrip.frRd2 : RoundTrip.Statement .frRd2 := rfl
theorem RoundTrip.frRd4 : RoundTrip.Statement .frRd4 := rfl
theorem RoundTrip.frRd8 : RoundTrip.Statement .frRd8 := rfl
theorem RoundTrip.frOfs : RoundTrip.Statement .frOfs := rfl
theorem RoundTrip.fvValidate : RoundTrip.Statement .fvValidate := rfl
theorem RoundTrip.fvScid : RoundTrip.Statement .fvScid := rfl
theorem RoundTrip.fvVcid : RoundTrip.Statement .fvVcid := rfl
theorem RoundTrip.fvMcfc : RoundTrip.Statement .fvMcfc := rfl
theorem RoundTrip.fvVcfc : RoundTrip.Statement .fvVcfc := rfl
theorem RoundTrip.fvOcf : RoundTrip.Statement .fvOcf := rfl
theorem RoundTrip.fvFhp : RoundTrip.Statement .fvFhp := rfl
theorem RoundTrip.fvData : RoundTrip.Statement .fvData := rfl
theorem RoundTrip.pvValidate : RoundTrip.Statement .pvValidate := rfl
theorem RoundTrip.pvApid : RoundTrip.Statement .pvApid := rfl
theorem RoundTrip.pvSeq : RoundTrip.Statement .pvSeq := rfl
theorem RoundTrip.pvLen : RoundTrip.Statement .pvLen := rfl
theorem RoundTrip.pvStype : RoundTrip.Statement .pvStype := rfl
theorem RoundTrip.pvSsub : RoundTrip.Statement .pvSsub := rfl
theorem RoundTrip.pvDest : RoundTrip.Statement .pvDest := rfl
theorem RoundTrip.pvTime : RoundTrip.Statement .pvTime := rfl
theorem RoundTrip.pvPec : RoundTrip.Statement .pvPec := rfl
theorem RoundTrip.pvPayload : RoundTrip.Statement .pvPayload := rfl
theorem RoundTrip.crcCompute : RoundTrip.Statement .crcCompute := rfl
theorem RoundTrip.xAdd : RoundTrip.Statement .xAdd := rfl
theorem RoundTrip.xEnd : RoundTrip.Statement .xEnd := rfl
theorem RoundTrip.xNproc : RoundTrip.Statement .xNproc := rfl
theorem RoundTrip.xNextr : RoundTrip.Statement .xNextr := rfl
theorem RoundTrip.xNmiss : RoundTrip.Statement .xNmiss := rfl
theorem RoundTrip.xNlost : RoundTrip.Statement .xNlost := rfl

theorem OpcodeAssigned.frBind : OpcodeAssigned.Statement .frBind := rfl
theorem OpcodeAssigned.frRd1 : OpcodeAssigned.Statement .frRd1 := rfl
theorem OpcodeAssigned.frRd2 : OpcodeAssigned.Statement .frRd2 := rfl
theorem OpcodeAssigned.frRd4 : OpcodeAssigned.Statement .frRd4 := rfl
theorem OpcodeAssigned.frRd8 : OpcodeAssigned.Statement .frRd8 := rfl
theorem OpcodeAssigned.frOfs : OpcodeAssigned.Statement .frOfs := rfl
theorem OpcodeAssigned.fvValidate : OpcodeAssigned.Statement .fvValidate := rfl
theorem OpcodeAssigned.fvScid : OpcodeAssigned.Statement .fvScid := rfl
theorem OpcodeAssigned.fvVcid : OpcodeAssigned.Statement .fvVcid := rfl
theorem OpcodeAssigned.fvMcfc : OpcodeAssigned.Statement .fvMcfc := rfl
theorem OpcodeAssigned.fvVcfc : OpcodeAssigned.Statement .fvVcfc := rfl
theorem OpcodeAssigned.fvOcf : OpcodeAssigned.Statement .fvOcf := rfl
theorem OpcodeAssigned.fvFhp : OpcodeAssigned.Statement .fvFhp := rfl
theorem OpcodeAssigned.fvData : OpcodeAssigned.Statement .fvData := rfl
theorem OpcodeAssigned.pvValidate : OpcodeAssigned.Statement .pvValidate := rfl
theorem OpcodeAssigned.pvApid : OpcodeAssigned.Statement .pvApid := rfl
theorem OpcodeAssigned.pvSeq : OpcodeAssigned.Statement .pvSeq := rfl
theorem OpcodeAssigned.pvLen : OpcodeAssigned.Statement .pvLen := rfl
theorem OpcodeAssigned.pvStype : OpcodeAssigned.Statement .pvStype := rfl
theorem OpcodeAssigned.pvSsub : OpcodeAssigned.Statement .pvSsub := rfl
theorem OpcodeAssigned.pvDest : OpcodeAssigned.Statement .pvDest := rfl
theorem OpcodeAssigned.pvTime : OpcodeAssigned.Statement .pvTime := rfl
theorem OpcodeAssigned.pvPec : OpcodeAssigned.Statement .pvPec := rfl
theorem OpcodeAssigned.pvPayload : OpcodeAssigned.Statement .pvPayload := rfl
theorem OpcodeAssigned.crcCompute : OpcodeAssigned.Statement .crcCompute := rfl
theorem OpcodeAssigned.xAdd : OpcodeAssigned.Statement .xAdd := rfl
theorem OpcodeAssigned.xEnd : OpcodeAssigned.Statement .xEnd := rfl
theorem OpcodeAssigned.xNproc : OpcodeAssigned.Statement .xNproc := rfl
theorem OpcodeAssigned.xNextr : OpcodeAssigned.Statement .xNextr := rfl
theorem OpcodeAssigned.xNmiss : OpcodeAssigned.Statement .xNmiss := rfl
theorem OpcodeAssigned.xNlost : OpcodeAssigned.Statement .xNlost := rfl

end Sys2Proof.Laws
end

