-- ==== Sys2Proof/Tests/Slice0.lean ====
section
/-! SUPPORT. The model's own tests, in three parts: well-formedness and decoding, one or two one-step tests for each command
with the vectors of spec/95_test_vectors.md, and for each statement with hypotheses a state that meets them. -/

namespace Sys2Proof.Tests

open Sys2Proof.Machine

/-! ## Helpers -/

/-- The state after reset with this channel and then a LOAD of these bytes. -/
def loadedState (vcid : BitVec 3) (bytes : List Byte) : State :=
  hostLoad { State.reset with cfgVcid := vcid } bytes

/-- The state a command leads to. -/
def nextOf : Result → State
  | .next t => t
  | .fault _ => State.reset
  | .refused _ => State.reset

/-- The response of a command: `STATUS`, `RES0`, `RES1`. -/
def answer : Result → Option (BitVec 16 × BitVec 64 × BitVec 32)
  | .next t => some (t.status, t.res0, t.res1)
  | .fault _ => none
  | .refused _ => none

/-- What X.ADD and X.END leave: the four counters, `EXPECTED`, the reassembly buffer and the events. -/
def extractorOf (r : Result) : (Nat × Nat × Nat × Nat) × Nat × (Bool × List Byte) × List Event :=
  let t := nextOf r
  ((t.framesProcessed.toNat, t.packetsExtracted.toNat, t.framesMissing.toNat, t.packetsLost.toNat),
    t.expected.toNat, (t.rbPresent, t.rb), t.out)

/-- The header of a frame on channel 1 with this counter and first-header-pointer bytes (95_test_vectors.md). -/
def frameHead (counter p q : Byte) : List Byte := [0x12, 0x32, 0x00, counter, p, q, 0, 0, 0, 0]

/-- The eight bytes of the FieldReader vectors (95_test_vectors.md, section 2). -/
def readerBytes : List Byte := [0x01, 0x23, 0x45, 0x67, 0x89, 0xAB, 0xCD, 0xEF]

/-- Packet A of 95_test_vectors.md. -/
def packetA : List Byte :=
  [0x09, 0x23, 0xC0, 0x05, 0x00, 0x0D, 0x00, 0x01, 0x02, 0x03, 0x0A, 0x0B, 0x0C, 0x0D, 0x0E, 0x0F, 0xDE, 0xAD, 0xB4,
    0x1B]

/-- Packet B of 95_test_vectors.md. -/
def packetB : List Byte :=
  [0x08, 0x55, 0xFF, 0xFF, 0x00, 0x0B, 0x00, 0x09, 0x08, 0x07, 0xFF, 0xFF, 0xFF, 0xFF, 0xFF, 0xFF, 0x0B, 0xC1]

/-- Frame E1 of 95_test_vectors.md. -/
def frameE1 : List Byte := [0x12, 0x32, 0x01, 0x01, 0x9F, 0xFE, 0, 0, 0, 0, 0, 0, 0, 0, 0, 0, 0, 0]

/-- A state with a reader whose cursor stands at `cursor` in `readerBytes`. -/
def readerAt (cursor : BitVec 32) : State := { loadedState 0 readerBytes with frBound := true, frCur := cursor }

/-- Channel 1 after one frame with counter `expected - 1`, with a pending buffer or none, and `bytes` loaded. -/
def midRun (expected : BitVec 8) (pending : Option (List Byte)) (bytes : List Byte) : State :=
  { loadedState 1 bytes with
    started := true, expected := expected, framesProcessed := 1#32
    rbPresent := pending.isSome, rb := pending.getD [] }

/-- A state with nothing loaded and `ILEN` set to `n`. -/
def lengthOnly (n : BitVec 32) : State := { State.reset with ilen := n }

/-- The state after reset, with an input buffer of `n` bytes. -/
def smallBuffer (n : Nat) : State := { State.reset with params := { Params.default with ibufCap := n } }

/-! ## Well-formedness -/

/-- R72, R74: each unit's first operation past its last is refused, and so is each unit past the last. -/
theorem test_opcode_ranges_refuse :
    [0x06#8, 0x18, 0x2A, 0x31, 0x46, 0x50, 0xFF].map opcodeAssigned =
      [false, false, false, false, false, false, false] := by decide

theorem test_load_longer_than_buffer_is_illformed :
    HostAction.wellFormed { Params.default with ibufCap := 7 } (.load [0, 0, 0, 0, 0, 0, 0, 0]) = false ∧
      HostAction.wellFormed { Params.default with ibufCap := 7 } (.load [0, 0, 0, 0, 0, 0, 0]) = true := by decide

/-- R10: `ILEN` has 32 bits, so a LOAD of 2^32 bytes is ill-formed however large the buffer. -/
theorem test_load_longer_than_length_register_is_illformed (bytes : List Byte) (h : bytes.length = 2 ^ 32) :
    HostAction.wellFormed { Params.default with ibufCap := 2 ^ 33 } (.load bytes) = false := by
  simp [HostAction.wellFormed, h]

theorem test_write_outside_buffer_is_illformed :
    HostAction.wellFormed Params.default (.writeIbuf 65542 0) = false ∧
      HostAction.wellFormed Params.default (.writeIbuf 65541 0) = true := by decide

theorem test_params_default_wellFormed : Params.default.wellFormed = true := by decide

theorem test_params_capacity_refused : { Params.default with ibufCap := 6 }.wellFormed = false := by decide

theorem test_params_stype_offset_refused :
    { Params.default with dfhStypeOff := 5 }.wellFormed = false ∧
      { Params.default with dfhStypeOff := 16 }.wellFormed = false := by decide

theorem test_params_ssub_offset_refused :
    { Params.default with dfhSsubOff := 5 }.wellFormed = false ∧
      { Params.default with dfhSsubOff := 16 }.wellFormed = false := by decide

theorem test_params_dest_offset_refused :
    { Params.default with dfhDestOff := 5 }.wellFormed = false ∧
      { Params.default with dfhDestOff := 16 }.wellFormed = false := by decide

theorem test_params_time_offset_refused :
    { Params.default with dfhTimeOff := 5 }.wellFormed = false ∧
      { Params.default with dfhTimeOff := 11 }.wellFormed = false := by decide

/-! ## Decoding: every command's word, written out from spec/30_encoding.md R72 -/

theorem test_decode_fieldReader :
    decodeTableWord 8 0b00000000 = some .frBind ∧ decodeTableWord 8 0b00000001 = some .frRd1 ∧
    decodeTableWord 8 0b00000010 = some .frRd2 ∧ decodeTableWord 8 0b00000011 = some .frRd4 ∧
    decodeTableWord 8 0b00000100 = some .frRd8 ∧ decodeTableWord 8 0b00000101 = some .frOfs := by decide

theorem test_decode_frameView :
    decodeTableWord 8 0b00010000 = some .fvValidate ∧ decodeTableWord 8 0b00010001 = some .fvScid ∧
    decodeTableWord 8 0b00010010 = some .fvVcid ∧ decodeTableWord 8 0b00010011 = some .fvMcfc ∧
    decodeTableWord 8 0b00010100 = some .fvVcfc ∧ decodeTableWord 8 0b00010101 = some .fvOcf ∧
    decodeTableWord 8 0b00010110 = some .fvFhp ∧ decodeTableWord 8 0b00010111 = some .fvData := by decide

theorem test_decode_packetView :
    decodeTableWord 8 0b00100000 = some .pvValidate ∧ decodeTableWord 8 0b00100001 = some .pvApid ∧
    decodeTableWord 8 0b00100010 = some .pvSeq ∧ decodeTableWord 8 0b00100011 = some .pvLen ∧
    decodeTableWord 8 0b00100100 = some .pvStype ∧ decodeTableWord 8 0b00100101 = some .pvSsub ∧
    decodeTableWord 8 0b00100110 = some .pvDest ∧ decodeTableWord 8 0b00100111 = some .pvTime ∧
    decodeTableWord 8 0b00101000 = some .pvPec ∧ decodeTableWord 8 0b00101001 = some .pvPayload := by decide

theorem test_decode_crc : decodeTableWord 8 0b00110000 = some .crcCompute := by decide

theorem test_decode_extractor :
    decodeTableWord 8 0b01000000 = some .xAdd ∧ decodeTableWord 8 0b01000001 = some .xEnd ∧
    decodeTableWord 8 0b01000010 = some .xNproc ∧ decodeTableWord 8 0b01000011 = some .xNextr ∧
    decodeTableWord 8 0b01000100 = some .xNmiss ∧ decodeTableWord 8 0b01000101 = some .xNlost := by decide

/-- R74: an unassigned opcode is rejected by name. -/
theorem test_decode_rejects : decode 0x2A = .error (.badOpcode 0x2A) := by rfl

/-! ## The step -/

/-- 95_test_vectors.md 6.10: `RESET 0`, opcode 0x06. -/
theorem test_bad_opcode :
    answer (step { State.reset with host := [.command 0x06] }) = some (0x0006, 0, 0) := by decide

/-- R7: the step takes the front action and the word given runs first. -/
theorem test_withFetchWord_runs :
    answer (step ({ loadedState 0 [0xAB, 0xCD, 0xEF, 0x01] with host := [.command 0x42] }.withFetchWord 8 0x30)) =
      some (0, 0x04A2, 0) := by decide +kernel

/-- R220, R223: the order of `IBUF` after a LOAD, and RESET empties it. -/
theorem test_load_then_reset :
    (nextOf (step { State.reset with host := [.load [0xAA, 0xBB]] })).ibuf = [(0, 0xAA), (1, 0xBB)] ∧
      (nextOf (step { loadedState 0 [0xAA] with host := [.reset 5] })).cfgVcid = 5 ∧
      (nextOf (step { loadedState 0 [0xAA] with host := [.reset 5] })).ibuf = [] := by decide

/-! ## FieldReader (95_test_vectors.md, section 2) -/

/-- FR3 and FR14: a failed FR.BIND leaves no reader, a second one rewinds. -/
theorem test_frBind :
    (nextOf (exec .frBind { readerAt 7 with ilen := 0 })).frBound = false ∧
      (nextOf (exec .frBind (readerAt 7))).frCur = 0 := by decide

/-- FR5, FR10. -/
theorem test_frRd1 :
    answer (exec .frRd1 (readerAt 0)) = some (0, 0x01, 0) ∧ answer (exec .frRd1 (readerAt 8)) = some (2, 0, 0) := by
  decide

/-- FR6, FR8. -/
theorem test_frRd2 :
    answer (exec .frRd2 (readerAt 1)) = some (0, 0x2345, 0) ∧ answer (exec .frRd2 (readerAt 7)) = some (2, 0, 0) := by
  decide

/-- FR7. -/
theorem test_frRd4 :
    answer (exec .frRd4 (readerAt 3)) = some (0, 0x6789ABCD, 0) ∧ (nextOf (exec .frRd4 (readerAt 3))).frCur = 7 := by
  decide

/-- FR11, FR13. -/
theorem test_frRd8 :
    answer (exec .frRd8 (readerAt 0)) = some (0, 0x0123456789ABCDEF, 0) ∧
      answer (exec .frRd8 (readerAt 1)) = some (2, 0, 0) := by decide

/-- FR2, and section 1.2. -/
theorem test_frOfs :
    answer (exec .frOfs State.reset) = some (1, 0, 0) ∧ answer (exec .frOfs (readerAt 4)) = some (0, 4, 0) := by decide

/-! ## FrameView (section 3) -/

/-- FV1, FV10, FV14, FV16. -/
theorem test_fvValidate :
    answer (exec .fvValidate (loadedState 0 frameE1)) = some (0, 0, 0) ∧
    answer (exec .fvValidate (loadedState 0 (frameE1.set 0 0x52))) = some (0x0103, 0, 0) ∧
    answer (exec .fvValidate (loadedState 0 (List.replicate 7 0xFF))) = some (0x0D03, 0, 0) ∧
    answer (exec .fvValidate (loadedState 0 [0x12, 0x32, 0x00, 0x01, 0x98, 0x00])) = some (1, 0, 0) := by decide

/-- FV6 to FV9, FV11. -/
theorem test_fvValidate_each_rule :
    [0x1F#8, 0xDF, 0xBF, 0x97].map (fun b => answer (exec .fvValidate (loadedState 0 (frameE1.set 4 b)))) =
      [some (0x0213, 0, 0), some (0x0423, 0, 0), some (0x0833, 0, 0), some (0x1043, 0, 0)] ∧
    answer (exec .fvValidate (loadedState 0 ((frameE1.set 0 0x52).set 4 0xE7))) = some (0x1D03, 0, 0) := by decide

/-- FV2, FV13. -/
theorem test_fvScid :
    answer (exec .fvScid (loadedState 0 frameE1)) = some (0, 0x123, 0) ∧
      answer (exec .fvScid (loadedState 0 (List.replicate 7 0xFF))) = some (0, 0x3FF, 0) := by decide

/-- FV2, FV13. -/
theorem test_fvVcid :
    answer (exec .fvVcid (loadedState 0 frameE1)) = some (0, 1, 0) ∧
      answer (exec .fvVcid (loadedState 0 (List.replicate 7 0xFF))) = some (0, 7, 0) := by decide

/-- FV2, on a frame whose two counters differ. -/
theorem test_fvMcfc : answer (exec .fvMcfc (loadedState 0 (frameE1.set 2 0xA5))) = some (0, 0xA5, 0) := by decide

/-- FV2, on a frame whose two counters differ. -/
theorem test_fvVcfc : answer (exec .fvVcfc (loadedState 0 (frameE1.set 3 0xA6))) = some (0, 0xA6, 0) := by decide

/-- FV2, FV13. -/
theorem test_fvOcf :
    answer (exec .fvOcf (loadedState 0 frameE1)) = some (0, 0, 0) ∧
      answer (exec .fvOcf (loadedState 0 (List.replicate 7 0xFF))) = some (0, 1, 0) := by decide

/-- FV2, FV13. -/
theorem test_fvFhp :
    answer (exec .fvFhp (loadedState 0 frameE1)) = some (0, 0x7FE, 0) ∧
      answer (exec .fvFhp (loadedState 0 (List.replicate 7 0xFF))) = some (0, 0x7FF, 0) := by decide

/-- FV3, FV15. -/
theorem test_fvData :
    answer (exec .fvData (loadedState 0 frameE1)) = some (0, 10, 8) ∧
      answer (exec .fvData (loadedState 0 (List.replicate 7 0xFF))) = some (2, 0, 0) := by decide

/-- FV18, FV19: with the OCF flag the headers take 14 bytes. -/
theorem test_fvData_with_ocf :
    answer (exec .fvData (loadedState 0 ((frameHead 1 0x98 0).set 1 0x33 ++ [0, 0, 0]))) = some (2, 0, 0) ∧
    answer (exec .fvData (loadedState 0 ((frameHead 1 0x98 0).set 1 0x33 ++ [0, 0, 0, 0]))) = some (0, 10, 0) := by
  decide

/-! ## PacketView (section 4) -/

/-- PV5, PV9, PV15, PV18. -/
theorem test_pvValidate :
    answer (exec .pvValidate (loadedState 0 packetA)) = some (0, 0xB41B, 0xB41B) ∧
    answer (exec .pvValidate (loadedState 0 (packetA.take 19))) = some (0x0104, 0, 0) ∧
    answer (exec .pvValidate (loadedState 0 (packetA.set 19 0x1A))) = some (0x2054, 0xB41B, 0xB41A) ∧
    answer (exec .pvValidate (loadedState 0 [0x08, 0x99, 0xC0, 0x00, 0x00, 0x00, 0x3E])) = some (0, 0x3E, 0x3E) := by
  decide +kernel

/-- PV17, PV21, PV23. -/
theorem test_pvValidate_several_rules :
    answer (exec .pvValidate (loadedState 0 (packetA.set 5 0x0E ++ [0x99]))) = some (0x2054, 0x96A3, 0x1B99) ∧
    answer (exec .pvValidate (loadedState 0 [0x07, 0xFF, 0xC0, 0, 0, 0, 0])) = some (0x2834, 0x1B8C, 0) ∧
    answer (exec .pvValidate (loadedState 0 [0, 0, 0, 0, 0, 0, 0])) = some (0x3834, 0x110C, 0) := by decide +kernel

/-- PV1, PV22. -/
theorem test_pvApid :
    answer (exec .pvApid (loadedState 0 packetA)) = some (0, 0x123, 0) ∧
      answer (exec .pvApid (loadedState 0 [0x07, 0xFF, 0xC0, 0, 0, 0, 0])) = some (0, 0x7FF, 0) := by decide

/-- PV1, PV6. -/
theorem test_pvSeq :
    answer (exec .pvSeq (loadedState 0 packetA)) = some (0, 5, 0) ∧
      answer (exec .pvSeq (loadedState 0 packetB)) = some (0, 0x3FFF, 0) := by decide

/-- PV13, PV24. -/
theorem test_pvLen :
    answer (exec .pvLen (loadedState 0 (packetA.take 7))) = some (0, 20, 0) ∧
      answer (exec .pvLen (loadedState 0 [0x08, 0x00, 0xC0, 0x00, 0xFF, 0xFF, 0x00])) = some (0, 65542, 0) := by decide

/-- PV2, PV13. -/
theorem test_pvStype :
    answer (exec .pvStype (loadedState 0 packetA)) = some (0, 1, 0) ∧
      answer (exec .pvStype (loadedState 0 (packetA.take 7))) = some (2, 0, 0) := by decide

/-- PV2, R129. -/
theorem test_pvSsub :
    answer (exec .pvSsub (loadedState 0 packetA)) = some (0, 2, 0) ∧
      answer (exec .pvSsub (loadedState 0 (packetA.take 8))) = some (2, 0, 0) := by decide

/-- PV2, R130. -/
theorem test_pvDest :
    answer (exec .pvDest (loadedState 0 packetA)) = some (0, 3, 0) ∧
      answer (exec .pvDest (loadedState 0 (packetA.take 9))) = some (2, 0, 0) := by decide

/-- PV3, PV12. -/
theorem test_pvTime :
    answer (exec .pvTime (loadedState 0 packetA)) = some (0, 0x0A0B0C0D0E0F, 0) ∧
      answer (exec .pvTime (loadedState 0 (packetA.take 15))) = some (2, 0, 0) := by decide

/-- PV4 with two bytes after the packet (as PV26), PV10. -/
theorem test_pvPec :
    answer (exec .pvPec (loadedState 0 (packetA ++ [0xAA, 0xBB]))) = some (0, 0xB41B, 0) ∧
      answer (exec .pvPec (loadedState 0 (packetA.take 19))) = some (2, 0, 0) := by decide

/-- PV4, PV7, PV20. -/
theorem test_pvPayload :
    answer (exec .pvPayload (loadedState 0 packetA)) = some (0, 16, 2) ∧
    answer (exec .pvPayload (loadedState 0 packetB)) = some (0, 16, 0) ∧
    answer (exec .pvPayload (loadedState 0 [0x08, 0x99, 0xC0, 0, 0, 0, 0x3E])) = some (2, 0, 0) := by decide

/-! ## CRC16 (sections 1.1 and 5) -/

/-- CRC1 to CRC4. -/
theorem test_crcCompute :
    [[], [0x00#8], [0xFF], [0xFF, 0xFF]].map (fun bytes => answer (exec .crcCompute (loadedState 0 bytes))) =
      [some (0, 0xFFFF, 0), some (0, 0xE1F0, 0), some (0, 0xFF00, 0), some (0, 0, 0)] := by decide +kernel

/-- CRC9, CRC12. -/
theorem test_crc16_runs :
    crc16 (List.replicate 16 0) = 0x6A0A ∧ crc16 (packetA.take 18) = 0xB41B := by decide +kernel

/-! ## PacketExtractor (section 6) -/

/-- X31: a gap discards the pending packet, the continuation is skipped in silence, a new packet is buffered. -/
theorem test_xAdd_gap :
    extractorOf (exec .xAdd (midRun 0xFF (some (packetA.take 16))
        (frameHead 0 0x98 8 ++ [0xD0, 0xD1, 0xD2, 0xD3, 0xD4, 0xD5, 0x28, 0xF3] ++ packetB.take 8))) =
      ((2, 0, 1, 1), 1, (true, packetB.take 8), [.diag .frameGap .warning 1 1 []]) := by decide +kernel

/-- X21 and X50 in one frame: the reconstructed packet, a 7-byte packet, idle fill. -/
theorem test_xAdd_several_packets :
    extractorOf (exec .xAdd (midRun 0x4E (some (packetB.take 12))
        (frameHead 0x4E 0x98 6 ++ packetB.drop 12 ++ [0x08, 0x99, 0xC0, 0, 0, 0, 0x3E] ++
          [0xAB, 0xCD, 0, 0, 0, 0, 0, 9, 9]))) =
      ((2, 2, 0, 0), 0x4F, (false, []),
        [.emit packetB 18 true, .emit [0x08, 0x99, 0xC0, 0, 0, 0, 0x3E] 7 false,
          .diag .idleFill .informational 13 9 []]) := by decide +kernel

/-- X80: a truncated tail is lost; X82: a tail that starts like an idle packet is not. -/
theorem test_xEnd :
    let lost := nextOf (exec .xEnd (midRun 0 (some [0x09, 0x23, 0xC0, 0x05, 0x00, 0x0D]) []))
    let kept := nextOf (exec .xEnd (midRun 0 (some [0x07, 0xFF, 0xC0]) []))
    lost.packetsLost = 1 ∧ lost.rbPresent = false ∧
      lost.out = [.diag .endIncomplete .warning 6 0 [0x09, 0x23, 0xC0, 0x05, 0x00, 0x0D]] ∧
      kept.packetsLost = 0 ∧ kept.rbPresent = false ∧ kept.out = [] := by decide

/-- X81, X83, X84, X85. -/
theorem test_xEnd_prefixes :
    [[0#8, 0, 0, 0, 0, 0], [0x07], [0x07, 0xFE], [0, 0, 1]].map
      (fun tail => (nextOf (exec .xEnd (midRun 0 (some tail) []))).packetsLost.toNat) = [0, 0, 1, 1] := by decide

/-- Counters that differ, so that no read can stand for another. -/
def counted : State :=
  { State.reset with framesProcessed := 1, packetsExtracted := 2, framesMissing := 3, packetsLost := 0xFFFFFFFF }

theorem test_xNproc : answer (exec .xNproc counted) = some (0, 1, 0) := by decide

theorem test_xNextr : answer (exec .xNextr counted) = some (0, 2, 0) := by decide

theorem test_xNmiss : answer (exec .xNmiss counted) = some (0, 3, 0) := by decide

/-- R23: a counter stays at 0xFFFFFFFF. -/
theorem test_xNlost_saturates :
    answer (exec .xNlost (nextOf (exec .xEnd { counted with rbPresent := true, rb := [1] }))) =
      some (0, 0xFFFFFFFF, 0) := by decide


/-! ## Witnesses: for each statement with hypotheses, states and operands that meet them, clause by clause -/

theorem witness_DecodeOfEncodeGivesTheCommand : Instr.wellFormed .frBind = true ∧ Instr.wellFormed .xNlost = true := by
  decide

theorem witness_DecodedOpcodeIsTheCommandsOpcode : decode 0x00 = .ok .frBind ∧ decode 0x45 = .ok .xNlost := ⟨rfl, rfl⟩

theorem witness_CommandTableDecodes : (0x00#8, Instr.frBind) ∈ opcodeTable ∧ (0x45#8, Instr.xNlost) ∈ opcodeTable := by
  decide

/-- Opcodes next to assigned ones, and the last of all. -/
theorem witness_UnassignedOpcodeAnswersBadOpcode :
    { State.reset with host := [.command 0x06] }.host = .command 0x06 :: [] ∧
      0x06#8 ∉ opcodeTable.map Prod.fst ∧ 0x46#8 ∉ opcodeTable.map Prod.fst ∧ 0xFF#8 ∉ opcodeTable.map Prod.fst := by
  decide

theorem witness_StepRunsTheDecodedCommand :
    { State.reset with host := [.command 0x40, .command 0x41] }.host = .command 0x40 :: [.command 0x41] ∧
      decode 0x40 = .ok .xAdd ∧ Instr.wellFormed .xAdd = true := ⟨rfl, rfl, rfl⟩

theorem witness_NothingHappensWithoutAHostAction : State.reset.host = [] := rfl

/-- The first offset outside `IBUF` and the last inside; a LOAD one byte too long and one that just fits. -/
theorem witness_OnlyAHostWriteOutsideIbufStops :
    HostAction.wellFormed { State.reset with host := [.writeIbuf 65542 0] }.params (.writeIbuf 65542 0) = false ∧
    (∀ a rest, { State.reset with host := [.writeIbuf 65541 0] }.host = a :: rest →
      a.wellFormed State.reset.params = true) ∧
    HostAction.wellFormed (smallBuffer 7).params (.load (List.replicate 8 0)) = false ∧
    HostAction.wellFormed (smallBuffer 7).params (.load (List.replicate 7 0)) = true := by
  refine ⟨by decide, ?_, by decide, by decide⟩
  rintro a rest ⟨⟩
  decide

theorem witness_ResetActionLeavesTheReadyState :
    { readerAt 3 with host := [.reset 7, .command 0] }.host = .reset 7 :: [.command 0] := rfl

theorem witness_CommandsStraightAfterReset :
    ∃ s, s = { hostReset (readerAt 3) 7 with frCur := 0xFFFFFFFF, expected := 0xFF } ∧
      Instr.xAdd ∈ frameViewCommands ++ packetViewCommands ++
        [.frBind, .frRd1, .frRd2, .frRd4, .frRd8, .frOfs, .xAdd] ∧
      Instr.xNlost ∈ [Instr.xEnd, .xNproc, .xNextr, .xNmiss, .xNlost] :=
  ⟨_, rfl, by decide, by decide⟩

/-- A LOAD of nothing, and one that fills the buffer. -/
theorem witness_LoadWritesBufferAndLength :
    { smallBuffer 7 with host := [.load []] }.host = .load [] :: [] ∧
    ([] : List Byte).length ≤ (smallBuffer 7).params.ibufCap ∧
    { smallBuffer 7 with host := [.load (List.replicate 7 0)] }.host = .load (List.replicate 7 0) :: [] ∧
    (List.replicate 7 (0 : Byte)).length ≤ (smallBuffer 7).params.ibufCap ∧
    (List.replicate 7 (0 : Byte)).length < 2 ^ 32 := by decide

theorem witness_HostWritesChangeWhatTheyName :
    { State.reset with host := [.writeIbuf 65541 1] }.host = .writeIbuf 65541 1 :: [] ∧
    65541 < State.reset.params.ibufCap ∧
    { State.reset with host := [.writeIlen 0xFFFFFFFF] }.host = .writeIlen 0xFFFFFFFF :: [] := by decide

theorem witness_UnwrittenBytesAreDrawnAfresh :
    Memory.lookup (loadedState 0 [0xAA]).ibuf 0 = some 0xAA ∧ Memory.lookup (loadedState 0 [0xAA]).ibuf 1 = none ∧
    ∃ s t, s.host = HostAction.command 0x30 :: [] ∧ step s = .next t :=
  ⟨rfl, rfl, { State.reset with host := [.command 0x30] }, _, rfl, rfl⟩

/-- An empty buffer, one byte too many, one byte, and as many as `IBUF` has. -/
theorem witness_FrBindConstructsAReader :
    (lengthOnly 0).ilen = 0#32 ∧ (lengthOnly 65543).params.ibufCap < (lengthOnly 65543).ilen.toNat ∧
    (lengthOnly 1).ilen ≠ 0#32 ∧ (lengthOnly 1).ilen.toNat ≤ (lengthOnly 1).params.ibufCap ∧
    (lengthOnly 65542).ilen.toNat ≤ (lengthOnly 65542).params.ibufCap := by decide

/-- For each width, the last cursor that the read can have in eight bytes. -/
theorem witness_FieldReadsReturnBigEndianNumbers :
    (readerAt 7).frBound = true ∧ (readerAt 7).ilen.toNat ≤ (readerAt 7).params.ibufCap ∧
    (readerAt 7).frCur.toNat + 1 ≤ (readerAt 7).ilen.toNat ∧ (readerAt 6).frCur.toNat + 2 ≤ (readerAt 6).ilen.toNat ∧
    (readerAt 4).frCur.toNat + 4 ≤ (readerAt 4).ilen.toNat ∧ (readerAt 0).frCur.toNat + 8 ≤ (readerAt 0).ilen.toNat ∧
    ∃ (c : Nat) (B : Nat → Nat), c = (readerAt 0).frCur.toNat ∧ ∀ k, B k = ((readerAt 0).view .field (c + k)).toNat :=
  ⟨by decide, by decide, by decide, by decide, by decide, by decide, _, _, rfl, fun _ => rfl⟩

/-- An `ILEN` one above the capacity; no reader; for the widest and the narrowest read, the first cursor out of range. -/
theorem witness_FieldReadsReturnBigEndianNumbers_failures :
    (8, Instr.frRd8) ∈ fieldReads ∧
    { readerAt 0 with ilen := 65543 }.params.ibufCap < { readerAt 0 with ilen := 65543 }.ilen.toNat ∧
    State.reset.frBound = false ∧
    ((readerAt 1).ilen.toNat ≤ (readerAt 1).params.ibufCap ∧ (readerAt 1).frBound = true ∧
      (readerAt 1).ilen.toNat < (readerAt 1).frCur.toNat + 8) ∧
    (1, Instr.frRd1) ∈ fieldReads ∧ (readerAt 8).ilen.toNat < (readerAt 8).frCur.toNat + 1 := by decide

theorem witness_FrOfsReturnsTheCursor : State.reset.frBound = false ∧ (readerAt 0xFFFFFFFF).frBound = true := by decide

theorem witness_FieldReaderLaws_bounds :
    (readerAt 0).frBound = true ∧ (8, Instr.frRd8) ∈ fieldReads ∧
    ((readerAt 0).frCur.toNat + 8 ≤ (readerAt 0).len ∧ (readerAt 0).len ≤ (readerAt 0).params.ibufCap) ∧
    ¬ ((readerAt 1).frCur.toNat + 8 ≤ (readerAt 1).len ∧ (readerAt 1).len ≤ (readerAt 1).params.ibufCap) := by decide

/-- Reads of 1 and 4 bytes in a row that end at the end of the buffer; two of 4 bytes beside one of 8. -/
theorem witness_FieldReaderLaws_sequences :
    (readerAt 3).loaded ∧ (readerAt 0).loaded ∧
    (∃ t u, exec .frRd1 (readerAt 3) = .next t ∧ t.status = 0#16 ∧
      exec .frRd4 { t with draws := 9, host := [.command 3] } = .next u ∧ u.status = 0#16) ∧
    ∃ t u v, exec .frRd4 (readerAt 0) = .next t ∧ t.status = 0#16 ∧ exec .frRd4 t = .next u ∧ u.status = 0#16 ∧
      exec .frRd8 (readerAt 0) = .next v :=
  ⟨by decide, by decide, ⟨_, _, rfl, rfl, rfl, rfl⟩, _, _, _, rfl, rfl, rfl, rfl, rfl⟩

/-- 6 bytes, 65536 bytes, and a frame longer than a small buffer. -/
theorem witness_FrameCommandsNeedAFrame :
    Instr.fvData ∈ frameViewCommands ++ [Instr.xAdd] ∧ (lengthOnly 6).ilen.toNat < 7 ∧
    65535 < (lengthOnly 65536).ilen.toNat ∧
    { smallBuffer 7 with ilen := 8 }.params.ibufCap < { smallBuffer 7 with ilen := 8 }.ilen.toNat := by decide

/-- One byte too few; the shortest frame and the longest; one byte too many. -/
theorem witness_FrameAccessorsReturnTheirFields :
    (lengthOnly 6).ilen.toNat < 7 ∧ 65535 < (lengthOnly 65536).ilen.toNat ∧
    (7 ≤ (lengthOnly 7).ilen.toNat ∧ (lengthOnly 7).ilen.toNat ≤ 65535 ∧
      (lengthOnly 7).ilen.toNat ≤ (lengthOnly 7).params.ibufCap) ∧
    (7 ≤ (lengthOnly 65535).ilen.toNat ∧ (lengthOnly 65535).ilen.toNat ≤ 65535 ∧
      (lengthOnly 65535).ilen.toNat ≤ (lengthOnly 65535).params.ibufCap) ∧
    ∃ F : Nat → Nat, ∀ k, F k = ((lengthOnly 7).view .field k).toNat :=
  ⟨by decide, by decide, by decide, by decide, _, fun _ => rfl⟩

/-- A buffer that is no frame; a frame that passes, and the shortest that violates three rules. -/
theorem witness_FrameValidationReportsEveryViolatedRule :
    (lengthOnly 6).ilen.toNat < 7 ∧
    (loadedState 0 frameE1).frameOk ∧ (loadedState 0 (List.replicate 7 0xFF)).frameOk := by decide

/-- The last bytes that pass and the first that do not. -/
theorem witness_FramePassesExactlyWithProfileBytes :
    (loadedState 0 [0x3F, 0, 0, 0, 0x9F, 0, 0]).frameOk ∧
    Memory.lookup (loadedState 0 [0x3F, 0, 0, 0, 0x9F, 0, 0]).ibuf 0 = some 0x3F ∧
    Memory.lookup (loadedState 0 [0x3F, 0, 0, 0, 0x9F, 0, 0]).ibuf 4 = some 0x9F ∧
    (loadedState 0 [0x40, 0, 0, 0, 0x97, 0, 0]).frameOk ∧
    Memory.lookup (loadedState 0 [0x40, 0, 0, 0, 0x97, 0, 0]).ibuf 0 = some 0x40 ∧
    Memory.lookup (loadedState 0 [0x40, 0, 0, 0, 0x97, 0, 0]).ibuf 4 = some 0x97 := by decide

/-- 6 bytes; 13 bytes with the OCF flag; 10 bytes without it. -/
theorem witness_FvDataGivesTheDataZone :
    (loadedState 0 (List.replicate 6 0xFF)).ilen.toNat < 7 ∧
    ((loadedState 0 (List.replicate 13 0xFF)).frameOk ∧
      14 = 10 + 4 * (((loadedState 0 (List.replicate 13 0xFF)).view .field 1).toNat &&& 1) ∧
      (loadedState 0 (List.replicate 13 0xFF)).ilen.toNat < 14) ∧
    (10 = 10 + 4 * (((loadedState 0 (List.replicate 10 0)).view .field 1).toNat &&& 1) ∧
      (loadedState 0 (List.replicate 10 0)).ilen.toNat ≤ 65535 ∧
      10 ≤ (loadedState 0 (List.replicate 10 0)).ilen.toNat) := by decide

theorem witness_PacketCommandsNeedSevenBytes :
    Instr.pvTime ∈ packetViewCommands ∧ (lengthOnly 6).ilen.toNat < 7 ∧
    (lengthOnly 65543).params.ibufCap < (lengthOnly 65543).ilen.toNat := by decide

theorem witness_PacketHeaderAccessorsReturnTheirFields :
    (lengthOnly 6).ilen.toNat < 7 ∧ (lengthOnly 7).packetOk ∧ (lengthOnly 65542).packetOk ∧
    ∃ P : Nat → Nat, ∀ k, P k = ((lengthOnly 7).view .field k).toNat :=
  ⟨by decide, by decide, by decide, _, fun _ => rfl⟩

/-- The default offset 7 of the service type: with 7 bytes it is outside, with 8 inside. -/
theorem witness_DataFieldHeaderAccessorsReturnTheirBytes :
    (7, Instr.pvStype) ∈ [((lengthOnly 7).params.dfhStypeOff, Instr.pvStype),
      ((lengthOnly 7).params.dfhSsubOff, .pvSsub), ((lengthOnly 7).params.dfhDestOff, .pvDest)] ∧
    (lengthOnly 6).ilen.toNat < 7 ∧ (lengthOnly 7).packetOk ∧ (lengthOnly 7).ilen.toNat < 7 + 1 ∧
    (lengthOnly 8).packetOk ∧ 7 + 1 ≤ (lengthOnly 8).ilen.toNat := by decide

theorem witness_OnboardTimeIsItsSixBytes :
    (lengthOnly 15).params.wellFormed = true ∧ (lengthOnly 6).ilen.toNat < 7 ∧ (lengthOnly 15).packetOk ∧
    (lengthOnly 15).params.dfhTimeOff = 10 ∧ (lengthOnly 15).ilen.toNat < 10 + 6 ∧
    (lengthOnly 16).packetOk ∧ 10 + 6 ≤ (lengthOnly 16).ilen.toNat ∧
    ∃ P : Nat → Nat, ∀ k, P k = ((lengthOnly 16).view .field (10 + k)).toNat :=
  ⟨by decide, by decide, by decide, by decide, by decide, by decide, by decide, _, fun _ => rfl⟩

/-- Packet A, whole and one byte short. -/
theorem witness_PvPecReturnsTheTrailer :
    let s := loadedState 0 packetA
    let cut := loadedState 0 (packetA.take 19)
    s.packetOk ∧ 20 = (s.view .pkLength 4).toNat * 256 + (s.view .pkLength 5).toNat + 7 ∧ 20 ≤ s.ilen.toNat ∧
      cut.packetOk ∧ 20 = (cut.view .pkLength 4).toNat * 256 + (cut.view .pkLength 5).toNat + 7 ∧
      cut.ilen.toNat < 20 := by decide

/-- Packet B, whose payload is empty; the same one byte short; a packet that declares 17 bytes. -/
theorem witness_PvPayloadGivesTheSlice :
    let s := loadedState 0 packetB
    let cut := loadedState 0 (packetB.take 17)
    let bare := loadedState 0 (packetB.set 5 0x0A)
    (s.packetOk ∧ 18 = (s.view .pkLength 4).toNat * 256 + (s.view .pkLength 5).toNat + 7 ∧ 18 ≤ s.ilen.toNat) ∧
    (cut.packetOk ∧ 18 = (cut.view .pkLength 4).toNat * 256 + (cut.view .pkLength 5).toNat + 7 ∧
      cut.ilen.toNat < 18) ∧
    bare.packetOk ∧ 17 = (bare.view .pkLength 4).toNat * 256 + (bare.view .pkLength 5).toNat + 7 := by decide

theorem witness_PacketValidationReportsEveryViolatedRule :
    let s := loadedState 0 packetA
    let cut := loadedState 0 (packetA.take 19)
    s.packetOk ∧ 20 = (s.view .pkLength 4).toNat * 256 + (s.view .pkLength 5).toNat + 7 ∧ 20 ≤ s.ilen.toNat ∧
      cut.packetOk ∧ 20 = (cut.view .pkLength 4).toNat * 256 + (cut.view .pkLength 5).toNat + 7 ∧
      cut.ilen.toNat < 20 := by decide

theorem witness_PacketPassesExactlyWithFlagsAndCrc :
    (loadedState 0 packetA).packetOk ∧ (loadedState 0 packetA).loaded := by decide

theorem witness_HeaderFaultOutranksTheCrc :
    let s := loadedState 0 (packetA.set 0 0x19)
    s.packetOk ∧ s.loaded ∧ packetLength s.bytes ≤ s.len ∧ ∃ t, exec .pvValidate s = .next t :=
  ⟨by decide, by decide, by decide, _, rfl⟩

theorem witness_CrcComputeReturnsTheCrc :
    (lengthOnly 65543).params.ibufCap < (lengthOnly 65543).ilen.toNat ∧
    (lengthOnly 65542).ilen.toNat ≤ (lengthOnly 65542).params.ibufCap ∧ (lengthOnly 0).ilen = 0#32 := by decide

/-- 6 bytes; a wrong channel; OCF headers that do not fit; a first header pointer one past the data zone. -/
theorem witness_XAddRejectsWithoutEffect :
    (loadedState 1 (List.replicate 6 0)).ilen.toNat < 7 ∧
    ((loadedState 0 frameE1).frameOk ∧
      (((loadedState 0 frameE1).view .addVcid 1).toNat >>> 1) &&& 7 ≠ (loadedState 0 frameE1).cfgVcid.toNat) ∧
    (let s := loadedState 1 ((frameHead 1 0x9F 0xFF).set 1 0x33 ++ [0, 0, 0])
     s.frameOk ∧ ((s.view .addVcid 1).toNat >>> 1) &&& 7 = s.cfgVcid.toNat ∧
       14 = 10 + 4 * ((s.view .addOcf 1).toNat &&& 1) ∧
       0x7FF = ((s.view .addFhp 4).toNat &&& 7) * 256 + (s.view .addFhp 5).toNat ∧ s.ilen.toNat < 14) ∧
    (let s := loadedState 1 (frameHead 1 0x98 5 ++ [1, 2, 3, 4])
     s.frameOk ∧ ((s.view .addVcid 1).toNat >>> 1) &&& 7 = s.cfgVcid.toNat ∧
       10 = 10 + 4 * ((s.view .addOcf 1).toNat &&& 1) ∧
       5 = ((s.view .addFhp 4).toNat &&& 7) * 256 + (s.view .addFhp 5).toNat ∧ 5 ≤ 0x7FD ∧
       s.ilen.toNat - 10 < 5) := by decide

theorem witness_IdleFrameIsTransparent :
    let s := midRun 1 (some [9, 9, 9]) frameE1
    s.rbInv ∧ s.addAccepts ∧ s.fhp = fhpIdleData := by decide

/-- Nothing pending, and a packet pending before a gap. -/
theorem witness_FrameStartingAtZeroIsCutIntoPackets :
    (let s := midRun 1 none (frameHead 1 0x98 0 ++ packetA)
     s.rbInv ∧ s.addAccepts ∧ s.fhp = 0#11 ∧ s.stillPending = false) ∧
    (let s := midRun 2 (some [9]) (frameHead 1 0x98 0 ++ packetA)
     s.rbInv ∧ s.addAccepts ∧ s.fhp = 0#11 ∧ s.stillPending = false) := by decide

theorem witness_StartAtZeroLosesThePendingPacket :
    let s := midRun 1 (some [9]) (frameHead 1 0x98 0 ++ packetA)
    s.rbInv ∧ s.addAccepts ∧ s.fhp = 0#11 ∧ s.stillPending = true := by decide

/-- After a gap, without one, and on the first frame; a pointer to the end of the data zone and the sentinel. -/
theorem witness_ContinuationWithNothingPendingIsSkipped :
    (let s := midRun 2 (some [9]) (frameHead 1 0x98 3 ++ [5, 5, 5])
     s.rbInv ∧ s.addAccepts ∧ s.fhp ≠ 0#11 ∧ s.fhp ≠ fhpIdleData ∧ s.stillPending = false ∧ s.missed ≠ 0#8) ∧
    (let s := midRun 1 none (frameHead 1 0x9F 0xFF ++ [5, 5, 5])
     s.rbInv ∧ s.addAccepts ∧ s.fhp ≠ 0#11 ∧ s.fhp ≠ fhpIdleData ∧ s.stillPending = false ∧ s.missed = 0#8) ∧
    (let s := loadedState 1 (frameHead 1 0x98 3 ++ [5, 5, 5])
     s.rbInv ∧ s.addAccepts ∧ s.fhp ≠ 0#11 ∧ s.fhp ≠ fhpIdleData ∧ s.stillPending = false ∧ s.started = false) :=
  ⟨by decide, by decide, by decide⟩

/-- Packet B: its last byte arrives; its last byte does not, with and without a new packet in the frame. -/
theorem witness_PendingPacketIsContinued :
    (let s := midRun 1 (some (packetB.take 16)) (frameHead 1 0x98 2 ++ packetB.drop 16)
     s.rbInv ∧ s.addAccepts ∧ s.fhp ≠ 0#11 ∧ s.fhp ≠ fhpIdleData ∧ s.stillPending = true ∧
       s.joinedComplete = true) ∧
    (let s := midRun 1 (some (packetB.take 16)) (frameHead 1 0x9F 0xFF ++ [0x0B])
     s.rbInv ∧ s.addAccepts ∧ s.fhp ≠ 0#11 ∧ s.fhp ≠ fhpIdleData ∧ s.stillPending = true ∧
       s.joinedComplete = false ∧ s.fhp = fhpNoPacketStart) ∧
    (let s := midRun 1 (some (packetB.take 16)) (frameHead 1 0x98 1 ++ [0x0B, 0x09])
     s.rbInv ∧ s.addAccepts ∧ s.fhp ≠ 0#11 ∧ s.fhp ≠ fhpIdleData ∧ s.stillPending = true ∧
       s.joinedComplete = false ∧ s.fhp ≠ fhpNoPacketStart) :=
  ⟨by decide, by decide, by decide⟩

theorem witness_LoopOfStepSixEnds : (addBegin State.reset 8).rem ≤ 8 := by decide

/-- A frame that X.ADD takes and one that it rejects. -/
theorem witness_ExtractorAnswersWithEventCounts :
    (loadedState 1 (frameHead 0 0x98 0)).addAccepts ∧ ¬ (loadedState 2 (frameHead 0 0x98 0)).addAccepts := by decide

/-- Nothing pending; six zeros pending; an idle prefix pending; a fragment pending. -/
theorem witness_XEndJudgesThePendingBuffer :
    let benign (rb : List Byte) : Prop :=
      (∀ b ∈ rb, b = 0#8) ∨ (rb[0]? = some 0x07#8 ∧ (rb.length < 2 ∨ rb[1]? = some 0xFF#8))
    (midRun 0 none []).rbPresent = false ∧
    ((midRun 0 (some [0, 0, 0, 0, 0, 0]) []).rbPresent = true ∧
      benign (midRun 0 (some [0, 0, 0, 0, 0, 0]) []).rb) ∧
    ((midRun 0 (some [7]) []).rbPresent = true ∧ benign (midRun 0 (some [7]) []).rb) ∧
    ((midRun 0 (some [7, 0xFE]) []).rbPresent = true ∧ ¬ benign (midRun 0 (some [7, 0xFE]) []).rb) ∧
    ∃ t u, exec .xEnd (midRun 0 (some [7, 0xFE]) []) = .next t ∧ exec .xEnd t = .next u :=
  ⟨by decide, by decide, by decide, by decide, _, _, rfl, rfl⟩

/-- One state for each of the five losses of R209. -/
theorem witness_EveryLossIsCountedOnce :
    (let s := midRun 2 (some [9]) (frameHead 1 0x98 0)
     s.rbInv ∧ s.addAccepts ∧ s.missed ≠ 0#8 ∧ s.rbPresent = true ∧ ∃ t, exec .xAdd s = .next t) ∧
    (let s := midRun 1 (some [9]) (frameHead 1 0x98 0)
     s.rbInv ∧ s.addAccepts ∧ s.missed = 0#8 ∧ s.rbPresent = true ∧ s.fhp = 0#11) ∧
    (let s := midRun 1 none (frameHead 1 0x9F 0xFF)
     s.rbInv ∧ s.addAccepts ∧ s.missed = 0#8 ∧ s.rbPresent = false ∧ s.started = true ∧ s.fhp ≠ 0#11 ∧
       s.fhp ≠ fhpIdleData) ∧
    (let s := midRun 1 (some [9]) (frameHead 1 0x98 1 ++ [9])
     s.rbInv ∧ s.addAccepts ∧ s.missed = 0#8 ∧ s.rbPresent = true ∧ s.fhp ≠ 0#11 ∧ s.fhp ≠ fhpIdleData ∧
       s.fhp ≠ fhpNoPacketStart ∧ s.joinedComplete = false) ∧
    (let s := midRun 1 (some [9]) []
     s.rbInv ∧ s.rbPresent = true ∧ rbBenign s.rb = false) :=
  ⟨⟨by decide, by decide, by decide, by decide, _, rfl⟩, by decide, by decide, by decide, by decide⟩

theorem witness_EmittedPacketsAreWhole :
    (midRun 1 none (frameHead 1 0x98 0 ++ packetB)).loaded ∧
      ∃ t, exec .xAdd (midRun 1 none (frameHead 1 0x98 0 ++ packetB)) = .next t := ⟨by decide, _, rfl⟩

/-- X21: a reconstructed packet first, another behind it. -/
theorem witness_ReconstructedPacketComesFirst :
    let s := midRun 1 (some (packetB.take 16)) (frameHead 1 0x98 2 ++ packetB.drop 16 ++ packetB)
    let t := nextOf (exec .xAdd s)
    t.out = s.out ++ [] ++ .emit packetB 18 true :: [.emit packetB 18 false] ∧
      Event.isReconstructed (.emit packetB 18 true) = true ∧ exec .xAdd s = .next t :=
  ⟨by decide, rfl, rfl⟩

theorem witness_DiagnosticsCarryTheirSeverity :
    (let s := midRun 1 none (frameHead 1 0x9F 0xFF)
     ∃ t, exec .xAdd s = .next t ∧ t.out = s.out ++ [.diag .protoContWithoutPending .error 0x7FF 0 []]) ∧
    (let s := midRun 1 (some [9]) []
     ∃ t, exec .xEnd s = .next t ∧ t.out = s.out ++ [.diag .endIncomplete .warning 1 0 [9]]) :=
  ⟨⟨_, rfl, by decide⟩, _, rfl, by decide⟩

theorem witness_ReadOnlyCommandsLeaveOnlyAResponse :
    Instr.fvValidate ∈ readOnlyCommands ∧ Instr.crcCompute ∈ readOnlyCommands ∧ Instr.xNlost ∈ readOnlyCommands := by
  decide

theorem witness_NoCommandWritesItsInput :
    (∃ t, exec .frRd1 (readerAt 7) = .next t) ∧ ∃ t, step { readerAt 7 with host := [.reset 1] } = .next t :=
  ⟨⟨_, rfl⟩, _, rfl⟩

/-- A failing FR.BIND, X.ADD on a wrong channel, and a read past the end. -/
theorem witness_FailuresAreExactAndLeaveNoTrace :
    (∃ t, exec .frBind { readerAt 7 with ilen := 0 } = .next t ∧ statusErr t.status = 1#4) ∧
    (∃ t, exec .xAdd (loadedState 0 frameE1) = .next t ∧ statusErr t.status = 5#4) ∧
    (∃ t, exec .frRd1 (readerAt 8) = .next t ∧ statusErr t.status = 2#4) ∧
    (∃ t, exec .fvValidate (loadedState 0 (List.replicate 7 0xFF)) = .next t ∧ statusErr t.status = 3#4) ∧
    ∃ t, exec .pvValidate (loadedState 0 (packetA.take 19)) = .next t ∧ statusErr t.status = 4#4 :=
  ⟨⟨_, rfl, rfl⟩, ⟨_, rfl, rfl⟩, ⟨_, rfl, rfl⟩, ⟨_, rfl, by decide⟩, _, rfl, by decide⟩

theorem witness_UnitsKeepToTheirOwnState :
    (∃ t, exec .xAdd (midRun 1 none (frameHead 1 0x98 0)) = .next t) ∧ Instr.xAdd ∉ fieldReaderCommands ∧
    (∃ t, exec .frRd1 (readerAt 7) = .next t) ∧ Instr.frRd1 ≠ .xAdd ∧ Instr.frRd1 ≠ .xEnd :=
  ⟨⟨_, rfl⟩, by decide, ⟨_, rfl⟩, by decide, by decide⟩

theorem witness_NothingIsTakenBackBeforeReset :
    ∃ t, step { midRun 1 (some [9]) (frameHead 1 0x98 0) with host := [.command 0x40] } = .next t ∧
      ∀ vcid rest, [HostAction.command 0x40] ≠ .reset vcid :: rest :=
  ⟨_, rfl, fun _ _ h => by cases h⟩

/-- X.ADD in its first frame, where `EXPECTED` has no value yet. -/
theorem witness_UnspecifiedRegistersAreNotRead :
    (loadedState 1 (frameHead 7 0x98 0)).frBound = false ∧ (loadedState 1 (frameHead 7 0x98 0)).started = false ∧
      (loadedState 1 (frameHead 7 0x98 0)).addAccepts := by decide

/-- Two states that differ past `ILEN`, in the response and in `OUT`. -/
theorem witness_AnswersDependOnTheLoadedBytesOnly :
    let s := midRun 1 none (frameHead 1 0x98 0 ++ packetB)
    let s' := { s with
      ibuf := Memory.write s.ibuf 28 0xFF, status := 2, out := [.emit [] 0 false], draws := 5 }
    s.params.wellFormed = true ∧ s'.params = s.params ∧ s'.ilen = s.ilen ∧ sameExtractor s s' ∧ sameReader s s' ∧
      s.loaded ∧ ∀ o < s.len, Memory.lookup s'.ibuf o = Memory.lookup s.ibuf o := by decide

/-- An X.ADD on written bytes, with a packet pending. -/
theorem witness_StepKeepsTheInvariant :
    let s := { midRun 1 (some (packetB.take 16)) (frameHead 1 0x9F 0xFF ++ [0x0B]) with host := [.command 0x40] }
    s.Inv ∧ s.hostDuty ∧ ∃ t, step s = .next t :=
  ⟨by decide, State.hostDuty_of_loaded _ (by decide), _, rfl⟩

/-- With unwritten bytes below `ILEN`: X.END, an unassigned opcode, and an X.ADD whose `ILEN` is above `IBUF_CAP`. -/
theorem witness_StepKeepsTheInvariant_unwritten :
    (let s := { midRun 1 (some (packetB.take 16)) [] with ilen := 5, host := [.command 0x41] }
     s.Inv ∧ s.hostDuty ∧ ¬ s.loaded ∧ ∃ t, step s = .next t) ∧
    (let s := { lengthOnly 5 with host := [.command 0x06] }
     s.Inv ∧ s.hostDuty ∧ ¬ s.loaded ∧ ∃ t, step s = .next t) ∧
    (let s := { smallBuffer 7 with ilen := 8, host := [.command 0x40] }
     s.Inv ∧ s.hostDuty ∧ ¬ s.loaded ∧ ∃ t, step s = .next t) := by
  refine ⟨⟨by decide, State.hostDuty_of_not_xAdd _ fun _ h => ?_, by decide, _, rfl⟩,
    ⟨by decide, State.hostDuty_of_not_xAdd _ fun _ h => ?_, by decide, _, rfl⟩, by decide, fun _ _ ha _ => ?_, by decide, _, rfl⟩
  · exact absurd (List.cons.inj h).1 (by decide)
  · exact absurd (List.cons.inj h).1 (by decide)
  · exact absurd (show 8 ≤ 7 from ha.1.2.2) (by decide)

theorem witness_ReassemblyBufferFitsItsLength : (midRun 1 (some (packetB.take 17)) []).rbInv := by decide

/-- An X.ADD that appends a packet, with a whole packet in `OUT` already. -/
theorem witness_OutputKeepsItsPacketsWhole :
    let s := { midRun 1 none (frameHead 1 0x98 0 ++ packetB) with
      out := [.emit packetA 20 false], host := [.command 0x40] }
    (∀ e ∈ s.out, e.whole) ∧ s.hostDuty ∧ ∃ t, step s = .next t := by
  refine ⟨fun e he => ?_, State.hostDuty_of_loaded _ (by decide), _, rfl⟩
  rw [List.mem_singleton.mp he]
  exact ⟨by decide, by decide⟩

end Sys2Proof.Tests
end

section
/-! What a step does with the host's next action (spec/00_scope.md R7): the equations of `step` and `issue` on a command
and on an empty queue, and the two statements on the scope of a step. -/

namespace Sys2Proof.Machine

/-- R7, R73: every opcode may be written to the command port. -/
@[simp] theorem command_wellFormed (p : Params) (opcode : BitVec 8) :
    (HostAction.command opcode).wellFormed p = true := rfl

/-- R7: with an empty queue the block stays as it is. -/
theorem step_of_host_nil {s : State} (hhost : s.host = []) : step s = .next s := by
  simp only [step, hhost]

/-- R7: a command at the front of the queue is issued at the state from which it has been taken. -/
theorem step_of_host_command {s : State} {opcode : BitVec 8} {rest : List HostAction}
    (hhost : s.host = .command opcode :: rest) : step s = issue opcode (s.takeAction rest) := by
  simp only [step, hhost, command_wellFormed, if_true]

/-- R73, R199: issuing an opcode that decodes runs its command. -/
theorem issue_of_decode_ok {opcode : BitVec 8} {i : Instr} (hdec : decode opcode = .ok i) (s : State) :
    issue opcode s = exec i s := by
  simp only [issue, hdec]

/-- Settles O5: the command is taken from the queue, decoded, and run. -/
theorem stepRunsTheDecodedCommand : Obligations.StepRunsTheDecodedCommand := by
  intro s opcode rest i hhost hdec _
  calc step s = issue opcode (s.takeAction rest) := step_of_host_command hhost
    _ = exec i (s.takeAction rest) := issue_of_decode_ok hdec _

/-- Settles O6: the branch of `step` on an empty queue. -/
theorem nothingHappensWithoutAHostAction : Obligations.NothingHappensWithoutAHostAction :=
  fun _ hhost => step_of_host_nil hhost

end Sys2Proof.Machine
end

section
/-! The host's own actions (spec/30_encoding.md R79, spec/20_memory.md R40, spec/70_reset_and_hazards.md R220): one
equation of `step` for each of them, and what any step can be. -/

namespace Sys2Proof.Machine

/-- R79, R220: a RESET at the front of the queue. -/
theorem step_of_host_reset {s : State} {vcid : BitVec 3} {rest : List HostAction}
    (hhost : s.host = .reset vcid :: rest) : step s = .next (hostReset (s.takeAction rest) vcid) := by
  simp only [step, hhost, HostAction.wellFormed, if_true]

/-- R79, R223: a LOAD whose bytes `IBUF` and `ILEN` can hold. -/
theorem step_of_host_load {s : State} {bytes : List Byte} {rest : List HostAction}
    (hhost : s.host = .load bytes :: rest) (hwf : (HostAction.load bytes).wellFormed s.params = true) :
    step s = .next (hostLoad (s.takeAction rest) bytes) := by
  simp only [step, hhost, hwf, if_true]

/-- R40, R203: a write of one byte at an offset that `IBUF` has. -/
theorem step_of_host_writeIbuf {s : State} {offset : Nat} {b : Byte} {rest : List HostAction}
    (hhost : s.host = .writeIbuf offset b :: rest)
    (hwf : (HostAction.writeIbuf offset b).wellFormed s.params = true) :
    step s = .next (hostWriteIbuf (s.takeAction rest) offset b) := by
  simp only [step, hhost, hwf, if_true]

/-- R12, R203: a write of `ILEN`. -/
theorem step_of_host_writeIlen {s : State} {n : BitVec 32} {rest : List HostAction}
    (hhost : s.host = .writeIlen n :: rest) : step s = .next (hostWriteIlen (s.takeAction rest) n) := by
  simp only [step, hhost, HostAction.wellFormed, if_true]

/-- R40, log 11: a host action that the block cannot take stops it. -/
theorem step_of_host_illFormed {s : State} {a : HostAction} {rest : List HostAction} (hhost : s.host = a :: rest)
    (hwf : a.wellFormed s.params = false) : step s = .fault .hostWriteOutsideIbuf := by
  simp [step, hhost, hwf]

/-- R7: everything that a step which goes on can be. -/
theorem step_cases {s t : State} (h : step s = .next t) :
    (s.host = [] ∧ t = s) ∨
    (∃ vcid rest, s.host = .reset vcid :: rest ∧ t = hostReset (s.takeAction rest) vcid) ∨
    (∃ bytes rest, (HostAction.load bytes).wellFormed s.params = true ∧ t = hostLoad (s.takeAction rest) bytes) ∨
    (∃ offset b rest, (HostAction.writeIbuf offset b).wellFormed s.params = true ∧
      t = hostWriteIbuf (s.takeAction rest) offset b) ∨
    (∃ n rest, t = hostWriteIlen (s.takeAction rest) n) ∨
    (∃ opcode rest, s.host = .command opcode :: rest ∧ issue opcode (s.takeAction rest) = .next t) := by
  cases hhost : s.host with
  | nil =>
    rw [step_of_host_nil hhost] at h
    exact .inl ⟨rfl, (Host.Outcome.next.inj h).symm⟩
  | cons a rest =>
    cases hwf : a.wellFormed s.params with
    | false => simp [step_of_host_illFormed hhost hwf] at h
    | true =>
      refine .inr ?_
      cases a with
      | reset vcid =>
        rw [step_of_host_reset hhost] at h
        exact .inl ⟨vcid, rest, rfl, (Host.Outcome.next.inj h).symm⟩
      | load bytes =>
        rw [step_of_host_load hhost hwf] at h
        exact .inr (.inl ⟨bytes, rest, hwf, (Host.Outcome.next.inj h).symm⟩)
      | writeIbuf offset b =>
        rw [step_of_host_writeIbuf hhost hwf] at h
        exact .inr (.inr (.inl ⟨offset, b, rest, hwf, (Host.Outcome.next.inj h).symm⟩))
      | writeIlen n =>
        rw [step_of_host_writeIlen hhost] at h
        exact .inr (.inr (.inr (.inl ⟨n, rest, (Host.Outcome.next.inj h).symm⟩)))
      | command opcode =>
        rw [step_of_host_command hhost] at h
        exact .inr (.inr (.inr (.inr ⟨opcode, rest, rfl, h⟩)))

/-- R73, R74, R199: an issued opcode runs the command it decodes to, or is answered with `BadOpcode`. -/
theorem issue_cases {opcode : BitVec 8} {s t : State} (h : issue opcode s = .next t) :
    (∃ i, decode opcode = .ok i ∧ exec i s = .next t) ∨ t = s.fail .badOpcode := by
  cases hdec : decode opcode with
  | ok i => exact .inl ⟨i, rfl, issue_of_decode_ok hdec s ▸ h⟩
  | error e =>
    simp only [issue, hdec, answerBadOpcode] at h
    exact .inr (Host.Outcome.next.inj h).symm

/-- R72: X.ADD has one opcode. -/
theorem eq_encode_of_decode_xAdd {opcode : BitVec 8} (h : decode opcode = .ok .xAdd) : opcode = encode .xAdd := by
  revert opcode
  decide

/-- Settles O8: each register is read off the state `hostReset` gives. -/
theorem resetActionLeavesTheReadyState : Obligations.ResetActionLeavesTheReadyState := by
  intro s vcid rest hhost
  refine ⟨_, step_of_host_reset hhost, rfl, rfl, rfl, rfl, rfl, rfl, rfl, rfl, rfl, rfl, rfl, rfl, rfl, rfl, ?_⟩
  intro offset hwritten
  simp [State.written, Memory.lookup] at hwritten

/-- Settles O12: a read after a write, at the same and at another offset. -/
theorem hostWritesChangeWhatTheyName : Obligations.HostWritesChangeWhatTheyName := by
  constructor
  · intro s offset b rest hhost hoffset
    exact ⟨Memory.write s.ibuf offset b, step_of_host_writeIbuf hhost (decide_eq_true hoffset),
      Memory.lookup_write_same _ _ _, fun o ho => Memory.lookup_write_other _ _ _ _ ho⟩
  · intro s n rest hhost
    exact step_of_host_writeIlen hhost

end Sys2Proof.Machine
end

section
/-! What the commands outside the extractor answer (spec/10_state.md R13, R14): one lemma for each shape of response,
and from these one for each unit. -/

namespace Sys2Proof.Machine

/-! ## The form of `STATUS` -/

/-- R13: a command that succeeds leaves 0 in `STATUS`. -/
theorem statusForm_zero : statusForm 0#16 := by decide

/-- R13, R104, R124: the `STATUS` of a validate command, for a mask as wide as its unit has rules. -/
theorem statusForm_validationStatus {cls : ErrClass} {m : BitVec 8}
    (hcls : cls = .malformedFrame ∧ m.toNat < 32 ∨ cls = .malformedPacket ∧ m.toNat < 64) :
    statusForm (validationStatus cls m) := by
  unfold validationStatus
  by_cases hm : m = 0#8
  · rw [if_pos hm]
    exact statusForm_zero
  · rw [if_neg hm]
    have hlowest := lowestSetBit_spec m hm
    simp only [statusForm, statusErr_statusWord, statusCause_statusWord, statusVmask_statusWord]
    rcases hcls with ⟨rfl, hlt⟩ | ⟨rfl, hlt⟩ <;> simp [ErrClass.code, hlowest.1, hlt] <;> exact hlowest.2

/-! ## The read-only commands -/

/-- R14, R50: the result is the state with a new response, whose `STATUS` has the form of R13. -/
def State.RespondsWith (s : State) (r : Result) : Prop :=
  ∃ status res0 res1, statusForm status ∧ r = .next (s.respond status res0 res1)

variable (s : State)

theorem State.respondsWith_respond {status : BitVec 16} (hform : statusForm status) (res0 : BitVec 64)
    (res1 : BitVec 32) : s.RespondsWith (.next (s.respond status res0 res1)) :=
  ⟨status, res0, res1, hform, rfl⟩

theorem State.respondsWith_succeed (res0 : BitVec 64) (res1 : BitVec 32) :
    s.RespondsWith (.next (s.succeed res0 res1)) :=
  s.respondsWith_respond statusForm_zero res0 res1

theorem State.respondsWith_fail {cls : ErrClass} (h3 : cls ≠ .malformedFrame) (h4 : cls ≠ .malformedPacket) :
    s.RespondsWith (.next (s.fail cls)) :=
  s.respondsWith_respond (statusForm_fail cls h3 h4) 0#64 0#32

theorem State.respondsWith_invalidArgument : s.RespondsWith (.next (s.fail .invalidArgument)) :=
  s.respondsWith_fail (by decide) (by decide)

theorem State.respondsWith_outOfBounds : s.RespondsWith (.next (s.fail .outOfBounds)) :=
  s.respondsWith_fail (by decide) (by decide)

theorem frameAccessor_respondsWith (value : BitVec 64) : s.RespondsWith (frameAccessor s value) := by
  rcases frameAccessor_cases s value with ⟨-, h⟩ | ⟨-, h⟩ <;> rw [h]
  · exact s.respondsWith_invalidArgument
  · exact s.respondsWith_succeed value 0#32

theorem packetAccessor_respondsWith (bound : Nat) (value : BitVec 64) :
    s.RespondsWith (packetAccessor s bound value) := by
  rcases packetAccessor_cases s bound value with ⟨-, h⟩ | ⟨-, -, h⟩ | ⟨-, -, h⟩ <;> rw [h]
  · exact s.respondsWith_invalidArgument
  · exact s.respondsWith_outOfBounds
  · exact s.respondsWith_succeed value 0#32

/-- R104: five frame rules, so a mask below 32. -/
theorem execFvValidate_respondsWith : s.RespondsWith (execFvValidate s) := by
  unfold execFvValidate
  split
  · exact s.respondsWith_respond
      (statusForm_validationStatus (.inl ⟨rfl, (violationMask_lt _ _ _ _ _ _).2 rfl⟩)) _ _
  · exact s.respondsWith_invalidArgument

theorem execFvData_respondsWith : s.RespondsWith (execFvData s) := by
  unfold execFvData
  split
  · split
    · exact s.respondsWith_outOfBounds
    · exact s.respondsWith_succeed _ _
  · exact s.respondsWith_invalidArgument

/-- R124: six packet rules, so a mask below 64. -/
theorem execPvValidate_respondsWith : s.RespondsWith (execPvValidate s) := by
  unfold execPvValidate
  split
  · exact s.respondsWith_respond
      (statusForm_validationStatus (.inr ⟨rfl, (violationMask_lt _ _ _ _ _ _).1⟩)) _ _
  · exact s.respondsWith_invalidArgument

theorem execPvPayload_respondsWith : s.RespondsWith (execPvPayload s) := by
  unfold execPvPayload
  split
  · split
    · exact s.respondsWith_outOfBounds
    · exact s.respondsWith_succeed _ _
  · exact s.respondsWith_invalidArgument

theorem execCrcCompute_respondsWith : s.RespondsWith (execCrcCompute s) := by
  unfold execCrcCompute
  split
  · exact s.respondsWith_invalidArgument
  · exact s.respondsWith_succeed _ _

theorem execFrOfs_respondsWith : s.RespondsWith (execFrOfs s) := by
  unfold execFrOfs
  split
  · exact s.respondsWith_invalidArgument
  · exact s.respondsWith_succeed _ _

/-- R50: the read-only commands write the response alone. -/
theorem exec_readOnly_respondsWith {i : Instr} (hi : i ∈ readOnlyCommands) : s.RespondsWith (exec i s) := by
  cases i with
  | fvValidate => exact execFvValidate_respondsWith s
  | fvScid | fvVcid | fvMcfc | fvVcfc | fvOcf | fvFhp => exact frameAccessor_respondsWith s _
  | fvData => exact execFvData_respondsWith s
  | pvValidate => exact execPvValidate_respondsWith s
  | pvApid | pvSeq | pvLen | pvStype | pvSsub | pvDest | pvTime | pvPec =>
    exact packetAccessor_respondsWith s _ _
  | pvPayload => exact execPvPayload_respondsWith s
  | crcCompute => exact execCrcCompute_respondsWith s
  | frOfs => exact execFrOfs_respondsWith s
  | xNproc | xNextr | xNmiss | xNlost => exact s.respondsWith_succeed _ _
  | frBind | frRd1 | frRd2 | frRd4 | frRd8 | xAdd | xEnd => exact absurd hi (by decide)

/-! ## The FieldReader -/

/-- R16: the reader's registers with these values. -/
def State.setReader (frBound : Bool) (frCur : BitVec 32) : State :=
  { s with frBound := frBound, frCur := frCur }

/-- R93: FR.RDn writes the cursor and the response. -/
theorem fieldRead_respondsWith (n : Nat) : ∃ frCur, (s.setReader s.frBound frCur).RespondsWith (fieldRead n s) := by
  rcases fieldRead_cases n s with ⟨-, h⟩ | ⟨-, -, h⟩ | ⟨-, -, -, h⟩ | ⟨-, -, -, h⟩ <;> rw [h]
  · exact ⟨s.frCur, s.respondsWith_invalidArgument⟩
  · exact ⟨s.frCur, s.respondsWith_invalidArgument⟩
  · exact ⟨s.frCur, s.respondsWith_outOfBounds⟩
  · exact ⟨_, State.respondsWith_succeed _ _ _⟩

/-- R91: FR.BIND writes the reader and the response. -/
theorem execFrBind_respondsWith : ∃ frBound frCur, (s.setReader frBound frCur).RespondsWith (execFrBind s) := by
  unfold execFrBind
  split
  · exact ⟨false, s.frCur, State.respondsWith_invalidArgument _⟩
  · exact ⟨true, 0#32, State.respondsWith_succeed _ _ _⟩

/-- R90: the FieldReader commands write the reader and the response. -/
theorem exec_fieldReader_respondsWith {i : Instr} (hi : i ∈ fieldReaderCommands) :
    ∃ frBound frCur, (s.setReader frBound frCur).RespondsWith (exec i s) := by
  cases i with
  | frBind => exact execFrBind_respondsWith s
  | frRd1 | frRd2 | frRd4 | frRd8 => exact ⟨s.frBound, fieldRead_respondsWith s _⟩
  | frOfs => exact ⟨s.frBound, s.frCur, execFrOfs_respondsWith s⟩
  | _ => exact absurd hi (by decide)

/-- R72: the commands of the table: read-only ones, FieldReader commands, X.ADD and X.END. -/
theorem command_kinds (i : Instr) :
    i ∈ readOnlyCommands ∨ i ∈ fieldReaderCommands ∨ i = .xAdd ∨ i = .xEnd := by
  cases i <;> decide

end Sys2Proof.Machine
end

section
/-! What X.ADD and X.END may do to the extractor (spec/10_state.md R17 to R23, spec/44_extractor.md R150 to R171):
their writes go to the extractor's registers and never take anything back, one lemma for each operation and then for
each step. -/

namespace Sys2Proof.Machine

/-- R150, R18, R22, R23: `t` differs from `s` in registers of the extractor alone, its counters have not fallen and
`STARTED` has not been cleared. `CFG_VCID` and `OUT` are not among them. -/
structure State.GrowsTo (s t : State) : Prop where
  frame : t = { s with
    started := t.started, expected := t.expected, rbPresent := t.rbPresent, rb := t.rb,
    framesProcessed := t.framesProcessed, packetsExtracted := t.packetsExtracted,
    framesMissing := t.framesMissing, packetsLost := t.packetsLost }
  framesProcessed_le : s.framesProcessed.toNat ≤ t.framesProcessed.toNat
  packetsExtracted_le : s.packetsExtracted.toNat ≤ t.packetsExtracted.toNat
  framesMissing_le : s.framesMissing.toNat ≤ t.framesMissing.toNat
  packetsLost_le : s.packetsLost.toNat ≤ t.packetsLost.toNat
  started_of : s.started = true → t.started = true

namespace State.GrowsTo

variable {s t u : State}

theorem refl (s : State) : s.GrowsTo s := ⟨rfl, le_rfl, le_rfl, le_rfl, le_rfl, id⟩

theorem trans (h : s.GrowsTo t) (k : t.GrowsTo u) : s.GrowsTo u where
  frame := by
    have := k.frame
    rw [h.frame] at this
    exact this
  framesProcessed_le := h.framesProcessed_le.trans k.framesProcessed_le
  packetsExtracted_le := h.packetsExtracted_le.trans k.packetsExtracted_le
  framesMissing_le := h.framesMissing_le.trans k.framesMissing_le
  packetsLost_le := h.packetsLost_le.trans k.packetsLost_le
  started_of := k.started_of ∘ h.started_of

theorem ibuf_eq (h : s.GrowsTo t) : t.ibuf = s.ibuf := by rw [h.frame]
theorem frBound_eq (h : s.GrowsTo t) : t.frBound = s.frBound := by rw [h.frame]
theorem frCur_eq (h : s.GrowsTo t) : t.frCur = s.frCur := by rw [h.frame]
theorem cfgVcid_eq (h : s.GrowsTo t) : t.cfgVcid = s.cfgVcid := by rw [h.frame]
theorem out_eq (h : s.GrowsTo t) : t.out = s.out := by rw [h.frame]
theorem params_eq (h : s.GrowsTo t) : t.params = s.params := by rw [h.frame]

end State.GrowsTo

/-! ## The operations of the pseudocode -/

theorem State.growsTo_clearRb (s : State) : s.GrowsTo s.clearRb := ⟨rfl, le_rfl, le_rfl, le_rfl, le_rfl, id⟩

theorem State.growsTo_appendRb (s : State) (bytes : List Byte) : s.GrowsTo (s.appendRb bytes) :=
  ⟨rfl, le_rfl, le_rfl, le_rfl, le_rfl, id⟩

theorem State.growsTo_losePacket (s : State) : s.GrowsTo s.losePacket :=
  ⟨rfl, le_rfl, le_rfl, le_rfl, le_satAdd _ _, id⟩

theorem AddWork.growsTo_emit (w : AddWork) (bytes : List Byte) (reconstructed : Bool) :
    w.st.GrowsTo (w.emit bytes reconstructed).st :=
  ⟨rfl, le_rfl, le_satAdd _ _, le_rfl, le_rfl, id⟩

/-- `clear RB` and then a loss (R155, R159, R165). -/
theorem State.growsTo_clearRb_losePacket (s : State) : s.GrowsTo s.clearRb.losePacket :=
  s.growsTo_clearRb.trans s.clearRb.growsTo_losePacket

/-! ## The steps of X.ADD -/

/-- R155: what a frame after the first does: nothing in sequence; after a gap it counts the missing frames, logs the
gap, and loses the pending packet if there is one. -/
theorem addContinuity_cases (ctr : BitVec 8) (w : AddWork) :
    addContinuity ctr w = w ∨
    ∃ arg0 arg1,
      ((addContinuity ctr w).st = { w.st with framesMissing := satAdd w.st.framesMissing arg0 } ∨
        (addContinuity ctr w).st =
          ({ w.st with framesMissing := satAdd w.st.framesMissing arg0 } : State).clearRb.losePacket) ∧
      (addContinuity ctr w).pos = w.pos ∧ (addContinuity ctr w).rem = w.rem ∧
      (addContinuity ctr w).events = w.events ++ [diagEvent w.st.params .frameGap arg0 arg1 []] := by
  unfold addContinuity
  by_cases hmissed : ctr - w.st.expected = 0#8
  · exact .inl (if_pos hmissed)
  · refine .inr ⟨(ctr - w.st.expected).toNat, if w.st.rbPresent then 1 else 0, ?_⟩
    dsimp only
    rw [if_neg hmissed]
    cases hpending : w.st.rbPresent
    · exact ⟨.inl rfl, rfl, rfl, rfl⟩
    · exact ⟨.inr rfl, rfl, rfl, rfl⟩

theorem addContinuity_growsTo (ctr : BitVec 8) (w : AddWork) : w.st.GrowsTo (addContinuity ctr w).st := by
  rcases addContinuity_cases ctr w with h | ⟨missed, _, hst, -, -, -⟩
  · rw [h]
    exact .refl _
  · have hmissing : w.st.GrowsTo { w.st with framesMissing := satAdd w.st.framesMissing missed } :=
      ⟨rfl, le_rfl, le_rfl, le_satAdd _ _, le_rfl, id⟩
    rcases hst with hst | hst <;> rw [hst]
    · exact hmissing
    · exact hmissing.trans (State.growsTo_clearRb_losePacket _)

/-- R155: a frame after the first is counted. -/
def AddWork.countLater (w : AddWork) : AddWork :=
  { w with st := { w.st with framesProcessed := satAdd w.st.framesProcessed 1 }, first := false }

/-- R155: the counter to expect in the frame after this one. -/
def AddWork.expectAfter (w : AddWork) (ctr : BitVec 8) : AddWork :=
  { w with st := { w.st with expected := ctr + 1#8 } }

/-- R155: step 2 for the first frame, which reads no `EXPECTED`. -/
theorem addCount_of_not_started {w : AddWork} (h : w.st.started = false) (ctr : BitVec 8) :
    addCount ctr w = { w with
      st := { w.st with
        framesProcessed := satAdd w.st.framesProcessed 1, started := true, expected := ctr + 1#8 }
      first := true } := by
  simp [addCount, h]

/-- R155: step 2 for a later frame. -/
theorem addCount_of_started {w : AddWork} (h : w.st.started = true) (ctr : BitVec 8) :
    addCount ctr w = (addContinuity ctr w.countLater).expectAfter ctr := by
  simp [addCount, h, AddWork.countLater, AddWork.expectAfter]

theorem addCount_growsTo (ctr : BitVec 8) (w : AddWork) : w.st.GrowsTo (addCount ctr w).st := by
  cases hstarted : w.st.started with
  | false =>
    rw [addCount_of_not_started hstarted]
    exact ⟨rfl, le_satAdd _ _, le_rfl, le_rfl, le_rfl, fun _ => rfl⟩
  | true =>
    have hcount : w.st.GrowsTo w.countLater.st := ⟨rfl, le_satAdd _ _, le_rfl, le_rfl, le_rfl, id⟩
    rw [addCount_of_started hstarted]
    exact (hcount.trans (addContinuity_growsTo ctr _)).trans ⟨rfl, le_rfl, le_rfl, le_rfl, le_rfl, id⟩

/-- R159: step 5a logs unless it follows a gap, clears the buffer and counts the loss. -/
theorem addStartWithPending_growsTo (w : AddWork) : w.st.GrowsTo (addStartWithPending w).st := by
  unfold addStartWithPending
  cases w.gap <;> exact w.st.growsTo_clearRb_losePacket

/-- R160: step 5b writes `PACKETS_LOST` at most. -/
theorem addContWithoutPending_growsTo (fhp : BitVec 11) (w : AddWork) :
    w.st.GrowsTo (addContWithoutPending fhp w).st := by
  unfold addContWithoutPending
  cases w.gap
  · cases w.first
    · exact w.st.growsTo_losePacket
    · exact .refl _
  · exact .refl _

/-- R162 to R165: the completion test has three outcomes. -/
theorem addComplete_growsTo (fhp : BitVec 11) (w : AddWork) : w.st.GrowsTo (addComplete fhp w).st := by
  by_cases hcomplete : 7 ≤ w.st.rbLen ∧ packetLength (listView w.st.rb) ≤ w.st.rbLen
  · rw [addComplete_complete fhp w hcomplete]
    exact (w.growsTo_emit _ _).trans (State.growsTo_clearRb _)
  · by_cases hnone : fhp = fhpNoPacketStart
    · rw [hnone, addComplete_kept w hcomplete]
      exact .refl _
    · rw [addComplete_lost fhp w hcomplete hnone]
      exact w.st.growsTo_clearRb_losePacket

/-- R160, R161: how many of the unconsumed bytes belong to an earlier packet. -/
def AddWork.continued (w : AddWork) (fhp : BitVec 11) : Nat :=
  if fhp = fhpNoPacketStart then w.rem else fhp.toNat

/-- R161: the append of step 5c: the next `n` bytes go from the data zone to the end of `RB`. -/
def AddWork.join (w : AddWork) (F : ReadSite → View) (n : Nat) : AddWork :=
  { w with st := w.st.appendRb (run (F .addAppend) w.pos n) }.skip n

/-- R161, R162: step 5c is the append and then the completion test. -/
theorem addContinue_eq_addComplete_join (F : ReadSite → View) (fhp : BitVec 11) (w : AddWork) :
    addContinue F fhp w = addComplete fhp (w.join F (w.continued fhp)) := rfl

theorem addContinue_growsTo (F : ReadSite → View) (fhp : BitVec 11) (w : AddWork) :
    w.st.GrowsTo (addContinue F fhp w).st := by
  have hjoin : w.st.GrowsTo (w.join F (w.continued fhp)).st := w.st.growsTo_appendRb _
  rw [addContinue_eq_addComplete_join]
  exact hjoin.trans (addComplete_growsTo fhp _)

theorem addResolve_growsTo (F : ReadSite → View) (fhp : BitVec 11) (w : AddWork) :
    w.st.GrowsTo (addResolve F fhp w).st := by
  unfold addResolve
  split
  · exact addStartWithPending_growsTo w
  · split
    · exact addContWithoutPending_growsTo fhp w
    · split
      · exact addContinue_growsTo F fhp w
      · exact .refl _

/-- R166 to R171: step 6 writes `PACKETS_EXTRACTED` and the buffer. -/
theorem addPackets_growsTo (F : ReadSite → View) (w : AddWork) : w.st.GrowsTo (addPackets F w.rem w).st := by
  obtain ⟨events, pending, -, -, hst⟩ := addPackets_zoneRun F w.rem w le_rfl
  rw [hst]
  exact ⟨rfl, le_rfl, le_satAdd _ _, le_rfl, le_rfl, id⟩

/-- R173: an accepted X.ADD, idle or not. -/
theorem addAccepted_growsTo (s : State) (ctr : BitVec 8) (fhp : BitVec 11) (n : Nat) :
    s.GrowsTo (addAccepted s ctr fhp n).st := by
  have hcount : s.GrowsTo (addCount ctr (addBegin s n)).st := addCount_growsTo ctr (addBegin s n)
  unfold addAccepted
  dsimp only
  split
  · exact hcount
  · exact (hcount.trans (addResolve_growsTo _ _ _)).trans (addPackets_growsTo _ _)

end Sys2Proof.Machine
end

section
/-! What X.ADD keeps when every byte it reads is written (spec/10_state.md R21, spec/44_extractor.md R173, R176): the
packets it emits are whole, the buffer it leaves is as R21 says, and its cursor stays in the data zone. -/

namespace Sys2Proof.Machine

/-! ## Two reads of a written byte -/

/-- R53: below `bound`, a byte reads the same whichever read of the command asks for it. -/
def ReadsAgreeBelow (F : ReadSite → View) (bound : Nat) : Prop :=
  ∀ r r' : ReadSite, ∀ o < bound, F r o = F r' o

theorem State.readsAgree_of_loaded {s : State} (h : s.loaded) : ReadsAgreeBelow s.view s.len := by
  intro r r' o ho
  rw [s.view_of_written r o (h o ho), s.view_of_written r' o (h o ho)]

/-- R68: a copy of a packet declares the length that was peeked before it. -/
theorem packetLength_run_eq_of_readsAgree {F : ReadSite → View} {pos n bound : Nat} (hF : ReadsAgreeBelow F bound)
    (hn : 6 ≤ n) (hbound : pos + n ≤ bound) (r r' : ReadSite) :
    packetLength (listView (run (F r) pos n)) = packetLength (shiftView (F r') pos) := by
  have hbyte : ∀ k < 6, listView (run (F r) pos n) k = shiftView (F r') pos k := fun k hk => by
    rw [listView_run _ _ _ _ (by omega)]
    exact hF r r' _ (by omega)
  exact packetLength_congr _ _ (hbyte 4 (by omega)) (hbyte 5 (by omega))

/-! ## The reassembly buffer -/

/-- R21: bytes that may stand in a buffer that is present: some, and fewer than they declare once they declare it. -/
def MayPend (bytes : List Byte) : Prop :=
  1 ≤ bytes.length ∧ (7 ≤ bytes.length → bytes.length < packetLength (listView bytes))

theorem State.rbInv_of_mayPend {s : State} (hpresent : s.rbPresent = true) (h : MayPend s.rb) : s.rbInv :=
  ⟨fun _ => h.1, fun habsent => by simp [hpresent] at habsent, fun _ => h.2⟩

theorem State.mayPend_of_rbInv {s : State} (h : s.rbInv) (hpresent : s.rbPresent = true) : MayPend s.rb :=
  ⟨h.1 hpresent, h.2.2 hpresent⟩

theorem State.rbInv_of_absent {s : State} (habsent : s.rbPresent = false) (hempty : s.rb = []) : s.rbInv :=
  ⟨fun hp => by simp [habsent] at hp, fun _ => by simp [State.rbLen, hempty], fun hp => by simp [habsent] at hp⟩

theorem State.rbInv_clearRb (s : State) : s.clearRb.rbInv := State.rbInv_of_absent rfl rfl

theorem State.rbInv_congr {s t : State} (hpresent : t.rbPresent = s.rbPresent) (hrb : t.rb = s.rb) (h : s.rbInv) :
    t.rbInv := by
  simpa only [State.rbInv, State.rbLen, hpresent, hrb] using h

/-! ## Step 6 -/

theorem emitEvent_whole {bytes : List Byte} {reconstructed : Bool}
    (h : bytes.length = packetLength (listView bytes)) : (emitEvent bytes reconstructed).whole := ⟨rfl, h⟩

/-- R170, R176: on bytes that read the same twice, every packet cut from the data zone is as long as it declares. -/
theorem ZoneRun.events_whole {F : ReadSite → View} {p : Params} {pos rem : Nat} {events : List Event}
    {pending : Option (List Byte)} (h : ZoneRun F p pos rem events pending) (hF : ReadsAgreeBelow F (pos + rem)) :
    ∀ e ∈ events, e.whole := by
  induction h with
  | done | short | tail => simp
  | idle pos rem => simp
  | packet pos rem plen events pending h7 hlen _ hfit _ ih =>
    have hplen := packetLength_ge (shiftView (F .addPeek) pos)
    have hdeclared := packetLength_run_eq_of_readsAgree hF (pos := pos) (n := plen) (by omega) (by omega)
      .addPacket .addPeek
    have hhead : (emitEvent (run (F .addPacket) pos plen) false).whole :=
      emitEvent_whole (by rw [run_length, hdeclared, hlen])
    exact List.forall_mem_cons.mpr ⟨hhead, ih (by rwa [show pos + plen + (rem - plen) = pos + rem by omega])⟩

/-- R167, R171: what step 6 leaves pending may pend. -/
theorem ZoneRun.mayPend {F : ReadSite → View} {p : Params} {pos rem : Nat} {events : List Event}
    {pending : Option (List Byte)} (h : ZoneRun F p pos rem events pending) (hF : ReadsAgreeBelow F (pos + rem)) :
    ∀ bytes, pending = some bytes → MayPend bytes := by
  induction h with
  | done | idle => simp
  | short pos rem h0 h7 =>
    rintro _ ⟨rfl⟩
    exact ⟨by rw [run_length]; omega, fun h => by rw [run_length] at h; omega⟩
  | packet pos rem plen events pending _ _ _ hfit _ ih =>
    exact ih (by rwa [show pos + plen + (rem - plen) = pos + rem by omega])
  | tail pos rem h7 hlong =>
    rintro _ ⟨rfl⟩
    rw [MayPend, run_length, packetLength_run_eq_of_readsAgree hF (by omega) le_rfl .addTail .addPeek]
    exact ⟨by omega, fun _ => hlong⟩

/-! ## Sound progress of X.ADD -/

/-- X.ADD comes soundly from `w` to `w'`: the unconsumed bytes end where they ended, the packets emitted on the way are
whole (R176), and the buffer is as R21 says if it was. -/
structure AddWork.SoundTo (w w' : AddWork) : Prop where
  zoneEnd : w'.pos + w'.rem = w.pos + w.rem
  whole : (∀ e ∈ w.events, e.whole) → ∀ e ∈ w'.events, e.whole
  rbInv : w.st.rbInv → w'.st.rbInv

namespace AddWork.SoundTo

variable {w w' w'' : AddWork}

theorem refl (w : AddWork) : w.SoundTo w := ⟨rfl, id, id⟩

theorem trans (h : w.SoundTo w') (k : w'.SoundTo w'') : w.SoundTo w'' :=
  ⟨k.zoneEnd.trans h.zoneEnd, k.whole ∘ h.whole, k.rbInv ∘ h.rbInv⟩

/-- A change of other registers than the buffer. -/
theorem of_rb_eq (hpos : w'.pos = w.pos) (hrem : w'.rem = w.rem) (hevents : w'.events = w.events)
    (hpresent : w'.st.rbPresent = w.st.rbPresent) (hrb : w'.st.rb = w.st.rb) : w.SoundTo w' :=
  ⟨by rw [hpos, hrem], by rw [hevents]; exact id, State.rbInv_congr hpresent hrb⟩

end AddWork.SoundTo

section Operations

variable (w : AddWork)

theorem AddWork.soundTo_diag (code : DiagCode) (arg0 arg1 : Nat) : w.SoundTo (w.diag code arg0 arg1) :=
  ⟨rfl, fun h => List.forall_mem_append.mpr ⟨h, List.forall_mem_singleton.mpr (diagEvent_whole _ _ _ _ _)⟩, id⟩

theorem AddWork.soundTo_emit {bytes : List Byte} (reconstructed : Bool)
    (hbytes : bytes.length = packetLength (listView bytes)) : w.SoundTo (w.emit bytes reconstructed) :=
  ⟨rfl, fun h => List.forall_mem_append.mpr ⟨h, List.forall_mem_singleton.mpr (emitEvent_whole hbytes)⟩, id⟩

theorem AddWork.soundTo_lose : w.SoundTo w.lose := .of_rb_eq rfl rfl rfl rfl rfl

theorem AddWork.soundTo_clear : w.SoundTo w.clear := ⟨rfl, id, fun _ => w.st.rbInv_clearRb⟩

theorem AddWork.soundTo_skip {n : Nat} (hn : n ≤ w.rem) : w.SoundTo (w.skip n) :=
  ⟨by simp; omega, id, id⟩

/-- `clear RB` and then a loss (R155, R159, R165). -/
theorem AddWork.soundTo_clear_lose : w.SoundTo w.clear.lose := w.soundTo_clear.trans w.clear.soundTo_lose

end Operations

/-! ## The steps of X.ADD -/

theorem addContinuity_soundTo (ctr : BitVec 8) (w : AddWork) : w.SoundTo (addContinuity ctr w) := by
  rcases addContinuity_cases ctr w with h | ⟨_, _, hst, hpos, hrem, hevents⟩
  · rw [h]
    exact .refl w
  · refine ⟨by rw [hpos, hrem], fun h => ?_, fun h => ?_⟩
    · rw [hevents]
      exact List.forall_mem_append.mpr ⟨h, List.forall_mem_singleton.mpr (diagEvent_whole _ _ _ _ _)⟩
    · rcases hst with hst | hst <;> rw [hst]
      · exact h
      · exact State.rbInv_of_absent rfl rfl

theorem addCount_soundTo (ctr : BitVec 8) (w : AddWork) : w.SoundTo (addCount ctr w) := by
  cases hstarted : w.st.started with
  | false =>
    rw [addCount_of_not_started hstarted]
    exact .of_rb_eq rfl rfl rfl rfl rfl
  | true =>
    have hcount : w.SoundTo w.countLater := .of_rb_eq rfl rfl rfl rfl rfl
    rw [addCount_of_started hstarted]
    exact (hcount.trans (addContinuity_soundTo ctr _)).trans (.of_rb_eq rfl rfl rfl rfl rfl)

theorem addContinuity_rem (ctr : BitVec 8) (w : AddWork) : (addContinuity ctr w).rem = w.rem := by
  rcases addContinuity_cases ctr w with h | ⟨_, _, -, -, hrem, -⟩
  · rw [h]
  · exact hrem

/-- R155, R157: step 2 consumes nothing. -/
theorem addCount_rem (ctr : BitVec 8) (w : AddWork) : (addCount ctr w).rem = w.rem := by
  cases hstarted : w.st.started with
  | false => rw [addCount_of_not_started hstarted]
  | true =>
    rw [addCount_of_started hstarted]
    exact addContinuity_rem ctr w.countLater

theorem addStartWithPending_soundTo (w : AddWork) : w.SoundTo (addStartWithPending w) := by
  unfold addStartWithPending
  cases w.gap
  · exact (w.soundTo_diag _ _ _).trans (AddWork.soundTo_clear_lose _)
  · exact w.soundTo_clear_lose

/-- R153, R154: the first header pointer points into the data zone or says that no packet starts there. -/
theorem AddWork.continued_le {fhp : BitVec 11} {w : AddWork} (hfhp : fhp = fhpNoPacketStart ∨ fhp.toNat ≤ w.rem) :
    w.continued fhp ≤ w.rem := by
  unfold AddWork.continued
  split
  · exact le_rfl
  · exact hfhp.resolve_left ‹_›

theorem addContWithoutPending_soundTo {fhp : BitVec 11} {w : AddWork} (hfhp : w.continued fhp ≤ w.rem) :
    w.SoundTo (addContWithoutPending fhp w) := by
  unfold addContWithoutPending
  cases w.gap
  · cases w.first
    · exact ((w.soundTo_diag _ _ _).trans (AddWork.soundTo_lose _)).trans (AddWork.soundTo_skip _ hfhp)
    · exact (w.soundTo_diag _ _ _).trans (AddWork.soundTo_skip _ hfhp)
  · exact w.soundTo_skip hfhp

/-- R163: the packet taken from a buffer that holds it is as long as it declares. -/
theorem length_take_packetLength {rb : List Byte} (h : packetLength (listView rb) ≤ rb.length) :
    (rb.take (packetLength (listView rb))).length =
      packetLength (listView (rb.take (packetLength (listView rb)))) := by
  have hge := packetLength_ge (listView rb)
  rw [List.length_take, Nat.min_eq_left h]
  exact packetLength_congr _ _ (listView_take _ _ _ (by omega)).symm (listView_take _ _ _ (by omega)).symm

/-- R161 to R165: the append alone may leave more than a packet; the completion test emits it, drops the bytes, or keeps
what still falls short. -/
theorem addContinue_soundTo (F : ReadSite → View) {fhp : BitVec 11} {w : AddWork} (hfhp : w.continued fhp ≤ w.rem)
    (hpresent : w.st.rbPresent = true) : w.SoundTo (addContinue F fhp w) := by
  rw [addContinue_eq_addComplete_join]
  generalize hjoin : w.join F (w.continued fhp) = j
  have hzone : j.pos + j.rem = w.pos + w.rem := hjoin ▸ (w.soundTo_skip hfhp).zoneEnd
  have hevents : j.events = w.events := hjoin ▸ rfl
  have hcleared : ∀ {w' : AddWork}, j.SoundTo w' → w'.st.rbInv → w.SoundTo w' := fun hsound hinv =>
    ⟨hsound.zoneEnd.trans hzone, hevents ▸ hsound.whole, fun _ => hinv⟩
  by_cases hcomplete : 7 ≤ j.st.rbLen ∧ packetLength (listView j.st.rb) ≤ j.st.rbLen
  · rw [addComplete_complete fhp j hcomplete]
    exact hcleared ((j.soundTo_emit true (length_take_packetLength hcomplete.2)).trans (AddWork.soundTo_clear _))
      (State.rbInv_clearRb _)
  · by_cases hnone : fhp = fhpNoPacketStart
    · rw [hnone, addComplete_kept j hcomplete]
      refine ⟨hzone, hevents ▸ id, fun hinv => ?_⟩
      have hlonger : w.st.rb.length ≤ j.st.rb.length := by
        rw [← hjoin]
        simp [AddWork.join]
      have hpending : 1 ≤ w.st.rb.length := (State.mayPend_of_rbInv hinv hpresent).1
      refine State.rbInv_of_mayPend (hjoin ▸ hpresent) ⟨by omega, fun h7 => ?_⟩
      exact Nat.lt_of_not_le fun hle => hcomplete ⟨h7, hle⟩
    · rw [addComplete_lost fhp j hcomplete hnone]
      exact hcleared ((j.soundTo_diag _ _ _).trans (AddWork.soundTo_clear_lose _)) (State.rbInv_of_absent rfl rfl)

theorem addResolve_soundTo (F : ReadSite → View) {fhp : BitVec 11} {w : AddWork} (hfhp : w.continued fhp ≤ w.rem) :
    w.SoundTo (addResolve F fhp w) := by
  unfold addResolve
  split
  · exact addStartWithPending_soundTo w
  · split
    · exact addContWithoutPending_soundTo hfhp
    · split
      · exact addContinue_soundTo F hfhp ‹_›
      · exact .refl w

/-- R166 to R171: step 6, by what `ZoneRun` says of its events and of what it leaves. -/
theorem addPackets_whole_rbInv {F : ReadSite → View} {w : AddWork} (hF : ReadsAgreeBelow F (w.pos + w.rem)) :
    ((∀ e ∈ w.events, e.whole) → ∀ e ∈ (addPackets F w.rem w).events, e.whole) ∧
    (w.st.rbInv → (addPackets F w.rem w).st.rbInv) := by
  obtain ⟨events, pending, hzone, hevents, hst⟩ := addPackets_zoneRun F w.rem w le_rfl
  rw [hevents, hst]
  refine ⟨fun h => List.forall_mem_append.mpr ⟨h, hzone.events_whole hF⟩, fun hinv => ?_⟩
  cases pending with
  | none => exact State.rbInv_congr (s := w.st) (by simp) rfl hinv
  | some bytes => exact State.rbInv_of_mayPend (by simp) (hzone.mayPend hF bytes rfl)

/-- R151, R152, R157: the data zone of an accepted frame lies below `ILEN`, and its continuation bytes in it. -/
theorem State.addAccepts_zone {s : State} (haccepts : s.addAccepts) (hidle : s.fhp ≠ fhpIdleData) :
    10 + s.zoneLength ≤ s.len ∧ (s.fhp = fhpNoPacketStart ∨ s.fhp.toNat ≤ s.zoneLength) := by
  obtain ⟨-, -, hbounds⟩ := haccepts
  have hbounds : ¬ (s.len < frameHdr (s.view .addOcf) ∨ (s.fhp ≠ fhpNoPacketStart ∧ s.zoneLength < s.fhp.toNat)) :=
    fun h => hbounds ⟨hidle, h⟩
  have hhdr : 10 ≤ frameHdr (s.view .addOcf) := Nat.le_add_right 10 _
  rw [not_or, not_and_or, not_not, Nat.not_lt, Nat.not_lt] at hbounds
  refine ⟨?_, hbounds.2⟩
  have := hbounds.1
  unfold State.zoneLength
  omega

/-- R173: an accepted X.ADD, the bytes of a frame that is not idle being written, emits whole packets and leaves the
buffer as R21 says. -/
theorem addAccepted_whole_rbInv {s : State} (haccepts : s.addAccepts)
    (hwritten : s.fhp ≠ fhpIdleData → s.loaded) (ctr : BitVec 8) :
    (∀ e ∈ (addAccepted s ctr s.fhp s.zoneLength).events, e.whole) ∧
    (s.rbInv → (addAccepted s ctr s.fhp s.zoneLength).st.rbInv) := by
  have hcount : (addBegin s s.zoneLength).SoundTo (addCount ctr (addBegin s s.zoneLength)) :=
    addCount_soundTo ctr _
  have hbegin : ∀ e ∈ (addBegin s s.zoneLength).events, e.whole := fun _ he => absurd he List.not_mem_nil
  unfold addAccepted
  dsimp only
  by_cases hidle : s.fhp = fhpIdleData
  · rw [if_pos hidle]
    exact ⟨hcount.whole hbegin, hcount.rbInv⟩
  · rw [if_neg hidle]
    obtain ⟨hzone, hfhp⟩ := s.addAccepts_zone haccepts hidle
    have hrem : (addCount ctr (addBegin s s.zoneLength)).rem = s.zoneLength := addCount_rem ctr _
    have hresolve := hcount.trans (addResolve_soundTo s.view (AddWork.continued_le (hrem.symm ▸ hfhp)))
    have hreads : ReadsAgreeBelow s.view
        ((addResolve s.view s.fhp (addCount ctr (addBegin s s.zoneLength))).pos +
          (addResolve s.view s.fhp (addCount ctr (addBegin s s.zoneLength))).rem) := by
      rw [hresolve.zoneEnd]
      exact fun r r' o ho => State.readsAgree_of_loaded (hwritten hidle) r r' o (lt_of_lt_of_le ho hzone)
    obtain ⟨hwhole, hinv⟩ := addPackets_whole_rbInv hreads
    exact ⟨hwhole (hresolve.whole hbegin), hinv ∘ hresolve.rbInv⟩

end Sys2Proof.Machine
end

section
/-! What any command may do, said once, and the statements about every command and every step that rest on it
(spec/10_state.md R10, R13, R21, R22, R30). -/

namespace Sys2Proof.Machine

/-- R223 (2), log 20: the bytes are written if the command is an X.ADD that reads the data zone of its frame. -/
def State.InputWritten (s : State) (i : Instr) : Prop :=
  i = .xAdd → s.addAccepts → s.fhp ≠ fhpIdleData → s.loaded

/-- R10, R50, R90, R150: what command `i` leaves of `s` in `t`: a response of the form of R13, and with it either the
FieldReader's registers written, by its own commands only, or the extractor's, by X.ADD and X.END only, which also
append to `OUT`. -/
inductive CommandEffect (i : Instr) (s t : State) : Prop where
  | reader (frBound : Bool) (frCur : BitVec 32) (status : BitVec 16) (res0 : BitVec 64) (res1 : BitVec 32)
      (hform : statusForm status)
      (hunit : i ∉ fieldReaderCommands → frBound = s.frBound ∧ frCur = s.frCur)
      (ht : t = (s.setReader frBound frCur).respond status res0 res1)
  | extractor (u : State) (events : List Event) (hunit : i = .xAdd ∨ i = .xEnd) (hgrows : s.GrowsTo u)
      (hwhole : s.InputWritten i → ∀ e ∈ events, e.whole) (hinv : s.InputWritten i → s.rbInv → u.rbInv)
      (ht : t = u.commit events)

section

variable {i : Instr} {s t : State}

/-- A response alone is an effect of any command. -/
theorem CommandEffect.of_respondsWith {r : Result} (hr : s.RespondsWith r) (h : r = .next t) :
    CommandEffect i s t := by
  obtain ⟨status, res0, res1, hform, rfl⟩ := hr
  exact .reader s.frBound s.frCur status res0 res1 hform (fun _ => ⟨rfl, rfl⟩) (Host.Outcome.next.inj h).symm

theorem execXAdd_effect (h : execXAdd s = .next t) : CommandEffect .xAdd s t := by
  by_cases haccepts : s.addAccepts
  · rw [execXAdd_accepted s haccepts] at h
    have hsound (hwritten : s.InputWritten .xAdd) :=
      addAccepted_whole_rbInv haccepts (hwritten rfl haccepts) (frameVcfc (s.view .addCounter))
    exact .extractor _ _ (.inl rfl) (addAccepted_growsTo s _ _ _) (fun hw => (hsound hw).1)
      (fun hw => (hsound hw).2) (Host.Outcome.next.inj h).symm
  · obtain ⟨cls, h3, h4, hfail⟩ := execXAdd_rejected s haccepts
    exact .of_respondsWith (s.respondsWith_fail h3 h4) (hfail ▸ h)

/-- R178: X.END appends one diagnostic at most, and no packet. -/
theorem execXEnd_effect (h : execXEnd s = .next t) : CommandEffect .xEnd s t := by
  have hnone : ∀ e ∈ ([] : List Event), e.whole := fun _ he => absurd he List.not_mem_nil
  unfold execXEnd at h
  split at h
  · exact .extractor s [] (.inr rfl) (.refl s) (fun _ => hnone) (fun _ => id) (Host.Outcome.next.inj h).symm
  · split at h
    · exact .extractor s.clearRb [] (.inr rfl) s.growsTo_clearRb (fun _ => hnone) (fun _ _ => s.rbInv_clearRb)
        (Host.Outcome.next.inj h).symm
    · exact .extractor s.clearRb.losePacket _ (.inr rfl) s.growsTo_clearRb_losePacket
        (fun _ => List.forall_mem_singleton.mpr (diagEvent_whole _ _ _ _ _))
        (fun _ _ => State.rbInv_of_absent rfl rfl) (Host.Outcome.next.inj h).symm

/-- Every command has one of the two effects. -/
theorem exec_effect (h : exec i s = .next t) : CommandEffect i s t := by
  rcases command_kinds i with hi | hi | rfl | rfl
  · exact .of_respondsWith (exec_readOnly_respondsWith s hi) h
  · obtain ⟨frBound, frCur, status, res0, res1, hform, hr⟩ := exec_fieldReader_respondsWith s hi
    exact .reader frBound frCur status res0 res1 hform (fun hn => absurd hi hn)
      (Host.Outcome.next.inj (hr.symm.trans h)).symm
  · exact execXAdd_effect h
  · exact execXEnd_effect h

/-! ## What is not taken back -/

/-- R17, R18, R22, R30: from `s` to `t` no counter falls, `STARTED` stays set, `CFG_VCID` stays and `OUT` keeps its
events. -/
def NothingTakenBack (s t : State) : Prop :=
  s.framesProcessed.toNat ≤ t.framesProcessed.toNat ∧ s.packetsExtracted.toNat ≤ t.packetsExtracted.toNat ∧
    s.framesMissing.toNat ≤ t.framesMissing.toNat ∧ s.packetsLost.toNat ≤ t.packetsLost.toNat ∧
    (s.started = true → t.started = true) ∧ t.cfgVcid = s.cfgVcid ∧ ∃ events, t.out = s.out ++ events

/-- A step that writes no register of the extractor and no event takes nothing back. -/
theorem NothingTakenBack.of_sameExtractor (h : sameExtractor s t) (hout : t.out = s.out) : NothingTakenBack s t := by
  obtain ⟨hvcid, hstarted, -, -, -, hprocessed, hextracted, hmissing, hlost⟩ := h
  refine ⟨?_, ?_, ?_, ?_, fun hs => hstarted.trans hs, hvcid, [], by rw [hout, List.append_nil]⟩
  · rw [hprocessed]
  · rw [hextracted]
  · rw [hmissing]
  · rw [hlost]

theorem exec_nothingTakenBack (h : exec i s = .next t) : NothingTakenBack s t := by
  cases exec_effect h with
  | reader frBound frCur status res0 res1 _ _ ht =>
    subst ht
    exact .of_sameExtractor ⟨rfl, rfl, rfl, rfl, rfl, rfl, rfl, rfl, rfl⟩ rfl
  | extractor u events _ hgrows _ _ ht =>
    subst ht
    exact ⟨hgrows.framesProcessed_le, hgrows.packetsExtracted_le, hgrows.framesMissing_le, hgrows.packetsLost_le,
      hgrows.started_of, hgrows.cfgVcid_eq, events, by rw [State.commit_out, hgrows.out_eq]⟩

/-! ## Whole packets -/

/-- R176: the packets a command appends are whole if the bytes it reads are written. -/
theorem exec_out_whole (h : exec i s = .next t) (hwritten : s.InputWritten i) :
    ∃ events, t.out = s.out ++ events ∧ ∀ e ∈ events, e.whole := by
  cases exec_effect h with
  | reader frBound frCur status res0 res1 _ _ ht =>
    subst ht
    exact ⟨[], (List.append_nil _).symm, fun _ he => absurd he List.not_mem_nil⟩
  | extractor u events _ hgrows hwhole _ ht =>
    subst ht
    exact ⟨events, by rw [State.commit_out, hgrows.out_eq], hwhole hwritten⟩

/-- R223 (2): the host's duty, at the command that the step takes. -/
theorem State.inputWritten_of_hostDuty {opcode : BitVec 8} {rest : List HostAction} (hduty : s.hostDuty)
    (hhost : s.host = .command opcode :: rest) (hdec : decode opcode = .ok i) :
    (s.takeAction rest).InputWritten i := by
  rintro rfl haccepts hidle
  rw [eq_encode_of_decode_xAdd hdec] at hhost
  exact hduty rest hhost haccepts hidle

/-! ## The invariant -/

/-- R40: what the host writes at offsets that `IBUF` has keeps the buffer within its capacity. -/
theorem State.ibufInv_hostWriteIbuf {offset : Nat} (h : s.ibufInv) (hoffset : offset < s.params.ibufCap) (b : Byte) :
    (hostWriteIbuf s offset b).ibufInv := by
  refine ⟨Memory.wf_write _ _ _ h.1, fun c hc => ?_⟩
  rcases (Memory.mem_keys_write s.ibuf offset b c.1).mp (List.mem_map_of_mem hc) with heq | hold
  · exact heq ▸ hoffset
  · obtain ⟨d, hd, hdc⟩ := List.mem_map.mp hold
    exact hdc ▸ h.2 d hd

theorem State.ibufInv_hostLoad {bytes : List Byte} (h : s.ibufInv) (hbytes : bytes.length ≤ s.params.ibufCap) :
    (hostLoad s bytes).ibufInv := by
  refine ⟨Memory.wf_writeRun _ _ _ h.1, fun c hc => ?_⟩
  rcases (Memory.mem_keys_writeRun s.ibuf 0 bytes c.1).mp (List.mem_map_of_mem hc) with ⟨-, hnew⟩ | hold
  · exact lt_of_lt_of_le hnew (by rwa [Nat.zero_add])
  · obtain ⟨d, hd, hdc⟩ := List.mem_map.mp hold
    exact hdc ▸ h.2 d hd

/-- R220: RESET clears all that the invariant speaks of, but for the parameters. -/
theorem hostReset_inv (hparams : s.params.wellFormed = true) (vcid : BitVec 3) : (hostReset s vcid).Inv :=
  ⟨State.rbInv_of_absent rfl rfl, ⟨Memory.wf_reset, fun _ hc => absurd hc List.not_mem_nil⟩, statusForm_zero, hparams⟩

/-- R21, R13, R40, R6: every command keeps the invariant. -/
theorem exec_inv (h : exec i s = .next t) (hinv : s.Inv) (hwritten : s.InputWritten i) : t.Inv := by
  obtain ⟨hrb, hibuf, hstatus, hparams⟩ := hinv
  cases exec_effect h with
  | reader frBound frCur status res0 res1 hform _ ht =>
    subst ht
    exact ⟨hrb, hibuf, hform, hparams⟩
  | extractor u events _ hgrows _ hrbInv ht =>
    subst ht
    refine ⟨hrbInv hwritten hrb, ?_, statusForm_zero, ?_⟩
    · rw [State.ibufInv, State.commit_ibuf, State.commit_params, hgrows.ibuf_eq, hgrows.params_eq]
      exact hibuf
    · rw [State.commit_params, hgrows.params_eq]
      exact hparams

/-- R21, R69: a pending buffer is shorter than the longest packet. -/
theorem State.rbLen_le_of_rbInv (h : s.rbInv) : s.rbLen ≤ 65541 := by
  obtain ⟨-, habsent, hpresent⟩ := h
  cases hp : s.rbPresent with
  | false =>
    have := habsent hp
    omega
  | true =>
    by_cases h7 : 7 ≤ s.rbLen
    · have := hpresent hp h7
      have := packetLength_le (listView s.rb)
      omega
    · omega

end

/-! ## The statements -/

/-- Settles O54: the two effects. -/
theorem unitsKeepToTheirOwnState : Obligations.UnitsKeepToTheirOwnState := by
  intro i s t h
  cases exec_effect h with
  | reader frBound frCur status res0 res1 _ hunit ht =>
    subst ht
    exact ⟨hunit, fun _ _ => ⟨⟨rfl, rfl, rfl, rfl, rfl, rfl, rfl, rfl, rfl⟩, rfl⟩⟩
  | extractor u events hunit hgrows _ _ ht =>
    subst ht
    exact ⟨fun _ => ⟨hgrows.frBound_eq, hgrows.frCur_eq⟩, fun hAdd hEnd => (hunit.elim hAdd hEnd).elim⟩

/-- Settles O55: the host's writes leave the extractor alone, and a command takes nothing back. -/
theorem nothingIsTakenBackBeforeReset : Obligations.NothingIsTakenBackBeforeReset := by
  intro s t h hreset
  show NothingTakenBack s t
  have hsame : sameExtractor s s := ⟨rfl, rfl, rfl, rfl, rfl, rfl, rfl, rfl, rfl⟩
  rcases step_cases h with ⟨-, rfl⟩ | ⟨vcid, rest, hhost, -⟩ | ⟨bytes, rest, -, rfl⟩ | ⟨offset, b, rest, -, rfl⟩ |
    ⟨n, rest, rfl⟩ | ⟨opcode, rest, -, hissue⟩
  · exact .of_sameExtractor hsame rfl
  · exact absurd hhost (hreset vcid rest)
  · exact .of_sameExtractor hsame rfl
  · exact .of_sameExtractor hsame rfl
  · exact .of_sameExtractor hsame rfl
  · rcases issue_cases hissue with ⟨i, -, hexec⟩ | rfl
    · exact exec_nothingTakenBack (s := s.takeAction rest) hexec
    · exact .of_sameExtractor hsame rfl

/-- Settles O48. -/
theorem emittedPacketsAreWhole : Obligations.EmittedPacketsAreWhole :=
  fun _ _ _ hloaded hexec => exec_out_whole hexec fun _ _ _ => hloaded

/-- Settles O60: RESET empties `OUT`, the other host actions leave it, and a command appends whole packets. -/
theorem outputKeepsItsPacketsWhole : Obligations.OutputKeepsItsPacketsWhole := by
  refine ⟨fun _ he => absurd he List.not_mem_nil, fun s t hout hduty h => ?_⟩
  rcases step_cases h with ⟨-, rfl⟩ | ⟨vcid, rest, -, rfl⟩ | ⟨bytes, rest, -, rfl⟩ | ⟨offset, b, rest, -, rfl⟩ |
    ⟨n, rest, rfl⟩ | ⟨opcode, rest, hhost, hissue⟩
  · exact hout
  · exact fun _ he => absurd he List.not_mem_nil
  · exact hout
  · exact hout
  · exact hout
  · rcases issue_cases hissue with ⟨i, hdec, hexec⟩ | rfl
    · obtain ⟨events, happend, hwhole⟩ := exec_out_whole hexec (s.inputWritten_of_hostDuty hduty hhost hdec)
      rw [happend]
      exact List.forall_mem_append.mpr ⟨hout, hwhole⟩
    · exact hout

/-- Settles O9: nothing pending, nothing written, `STATUS` 0, the default parameters. -/
theorem resetStateMeetsTheInvariant : Obligations.ResetStateMeetsTheInvariant :=
  hostReset_inv (s := State.reset) rfl Config.defaultVcid

/-- Settles O58: what the host writes touches `IBUF` and `ILEN` alone, RESET clears what the invariant speaks of, and a
command keeps it. -/
theorem stepKeepsTheInvariant : Obligations.StepKeepsTheInvariant := by
  intro s t hinv hduty h
  obtain ⟨hrb, hibuf, hstatus, hparams⟩ := hinv
  rcases step_cases h with ⟨-, rfl⟩ | ⟨vcid, rest, -, rfl⟩ | ⟨bytes, rest, hwf, rfl⟩ | ⟨offset, b, rest, hwf, rfl⟩ |
    ⟨n, rest, rfl⟩ | ⟨opcode, rest, hhost, hissue⟩
  · exact ⟨hrb, hibuf, hstatus, hparams⟩
  · exact hostReset_inv (s := s.takeAction rest) hparams vcid
  · have hbytes : bytes.length ≤ s.params.ibufCap := by
      simp only [HostAction.wellFormed, Bool.and_eq_true, decide_eq_true_eq] at hwf
      exact hwf.1
    exact ⟨hrb, State.ibufInv_hostLoad (s := s.takeAction rest) hibuf hbytes, hstatus, hparams⟩
  · exact ⟨hrb, State.ibufInv_hostWriteIbuf (s := s.takeAction rest) hibuf (of_decide_eq_true hwf) b, hstatus, hparams⟩
  · exact ⟨hrb, hibuf, hstatus, hparams⟩
  · rcases issue_cases hissue with ⟨i, hdec, hexec⟩ | rfl
    · exact exec_inv hexec ⟨hrb, hibuf, hstatus, hparams⟩ (s.inputWritten_of_hostDuty hduty hhost hdec)
    · exact ⟨hrb, hibuf, statusForm_fail .badOpcode (by decide) (by decide), hparams⟩

/-- Settles O59. -/
theorem reassemblyBufferFitsItsLength : Obligations.ReassemblyBufferFitsItsLength := by
  intro s h
  have hle := s.rbLen_le_of_rbInv h
  exact ⟨hle, by rw [BitVec.toNat_ofNat, Nat.mod_eq_of_lt (by omega)]⟩

end Sys2Proof.Machine
end

section
/-! Which registers a command does not read (spec/10_state.md R33): `FR_CUR` while no reader exists and `EXPECTED`
before the first frame. The commands on frames, packets and the CRC read their operand alone; X.ADD carries `FR_CUR`
along. -/

namespace Sys2Proof.Machine

/-! ## Commands that read their operand alone -/

/-- R101, R121, R144: what a command on `IBUF[0..ILEN)` looks at is the same in both states. -/
structure SameOperand (s s' : State) : Prop where
  view : s'.view = s.view
  len : s'.len = s.len
  params : s'.params = s.params

/-- Both results are their state with one and the same new response. -/
def SameResponse (s s' : State) (r r' : Result) : Prop :=
  ∃ status res0 res1, r = .next (s.respond status res0 res1) ∧ r' = .next (s'.respond status res0 res1)

section

variable {s s' : State}

theorem SameResponse.respond (status : BitVec 16) (res0 : BitVec 64) (res1 : BitVec 32) :
    SameResponse s s' (.next (s.respond status res0 res1)) (.next (s'.respond status res0 res1)) :=
  ⟨status, res0, res1, rfl, rfl⟩

theorem SameResponse.fail (cls : ErrClass) : SameResponse s s' (.next (s.fail cls)) (.next (s'.fail cls)) :=
  .respond _ _ _

theorem SameResponse.succeed (res0 : BitVec 64) (res1 : BitVec 32) :
    SameResponse s s' (.next (s.succeed res0 res1)) (.next (s'.succeed res0 res1)) :=
  .respond _ _ _

/-- A test that both states decide alike. -/
theorem SameResponse.ite {p p' : Prop} [Decidable p] [Decidable p'] {a a' b b' : Result} (hp : p' ↔ p)
    (ha : SameResponse s s' a a') (hb : SameResponse s s' b b') :
    SameResponse s s' (if p then a else b) (if p' then a' else b') := by
  by_cases h : p
  · rwa [if_pos h, if_pos (hp.mpr h)]
  · rwa [if_neg h, if_neg (mt hp.mp h)]

namespace SameOperand

theorem frameOk_iff (h : SameOperand s s') : s'.frameOk ↔ s.frameOk := by
  rw [State.frameOk, State.frameOk, h.len, h.params]

theorem packetOk_iff (h : SameOperand s s') : s'.packetOk ↔ s.packetOk := by
  rw [State.packetOk, State.packetOk, h.len, h.params]

theorem plen_eq (h : SameOperand s s') : s'.plen = s.plen := by
  rw [State.plen, State.plen, h.view]

theorem computedCrc_eq (h : SameOperand s s') : s'.computedCrc = s.computedCrc := by
  rw [State.computedCrc, State.computedCrc, h.plen_eq, h.len, h.view]

theorem readCrc_eq (h : SameOperand s s') : s'.readCrc = s.readCrc := by
  rw [State.readCrc, State.readCrc, h.plen_eq, h.len, h.view]

theorem frameViolations_eq (h : SameOperand s s') : frameViolations s' = frameViolations s := by
  rw [frameViolations, frameViolations, h.view]

theorem packetViolations_eq (h : SameOperand s s') : packetViolations s' = packetViolations s := by
  rw [packetViolations, packetViolations, h.view, h.len, h.plen_eq, h.computedCrc_eq, h.readCrc_eq]

theorem frameAccessor (h : SameOperand s s') {value value' : BitVec 64} (hvalue : value' = value) :
    SameResponse s s' (frameAccessor s value) (frameAccessor s' value') :=
  hvalue ▸ .ite h.frameOk_iff (.succeed _ _) (.fail _)

theorem packetAccessor (h : SameOperand s s') {bound bound' : Nat} {value value' : BitVec 64}
    (hbound : bound' = bound) (hvalue : value' = value) :
    SameResponse s s' (packetAccessor s bound value) (packetAccessor s' bound' value') :=
  hvalue ▸ .ite h.packetOk_iff (.ite (by rw [h.len, hbound]) (.fail _) (.succeed _ _)) (.fail _)

/-- R100, R120, R140: a command on a frame, a packet or the CRC answers by its operand alone. -/
theorem exec_sameResponse (h : SameOperand s s') {i : Instr}
    (hi : i ∈ frameViewCommands ++ packetViewCommands ++ [.crcCompute]) :
    SameResponse s s' (exec i s) (exec i s') := by
  cases i with
  | fvValidate =>
    show SameResponse s s' (execFvValidate s) (execFvValidate s')
    rw [execFvValidate, execFvValidate, h.frameViolations_eq]
    exact .ite h.frameOk_iff (.respond _ _ _) (.fail _)
  | fvScid | fvVcid | fvMcfc | fvVcfc | fvOcf | fvFhp => exact h.frameAccessor (by rw [h.view])
  | fvData =>
    show SameResponse s s' (execFvData s) (execFvData s')
    rw [execFvData, execFvData, h.view]
    exact .ite h.frameOk_iff (.ite (by rw [h.len]) (.fail _) (by rw [h.len]; exact .succeed _ _)) (.fail _)
  | pvValidate =>
    show SameResponse s s' (execPvValidate s) (execPvValidate s')
    rw [execPvValidate, execPvValidate, h.packetViolations_eq, h.computedCrc_eq, h.readCrc_eq]
    exact .ite h.packetOk_iff (.respond _ _ _) (.fail _)
  | pvApid | pvSeq | pvLen => exact h.packetAccessor rfl (by rw [h.view])
  | pvStype | pvSsub | pvDest | pvTime => exact h.packetAccessor (by rw [h.params]) (by rw [h.view, h.params])
  | pvPec => exact h.packetAccessor h.plen_eq (by rw [h.view, h.plen_eq])
  | pvPayload =>
    show SameResponse s s' (execPvPayload s) (execPvPayload s')
    rw [execPvPayload, execPvPayload, h.plen_eq]
    exact .ite h.packetOk_iff (.ite (by rw [h.len]) (.fail _) (.succeed _ _)) (.fail _)
  | crcCompute =>
    show SameResponse s s' (execCrcCompute s) (execCrcCompute s')
    rw [execCrcCompute, execCrcCompute, h.view, h.len, h.params]
    exact .ite Iff.rfl (.fail _) (.succeed _ _)
  | frBind | frRd1 | frRd2 | frRd4 | frRd8 | frOfs | xAdd | xEnd | xNproc | xNextr | xNmiss | xNlost =>
    exact absurd hi (by decide)

end SameOperand

end

/-! ## Results that agree but for one register -/

/-- R33: both results go on, to the same state or to states that differ by the update `f` alone. -/
def SameUpTo (f : State → State) (r r' : Result) : Prop :=
  ∃ t u, r = .next t ∧ r' = .next u ∧ (u = t ∨ u = f t)

namespace SameUpTo

variable {f : State → State}

theorem same (t : State) : SameUpTo f (.next t) (.next t) := ⟨t, t, rfl, rfl, .inl rfl⟩

theorem carried (t : State) : SameUpTo f (.next t) (.next (f t)) := ⟨t, f t, rfl, rfl, .inr rfl⟩

theorem ite {p : Prop} [Decidable p] {a a' b b' : Result} (ha : p → SameUpTo f a a')
    (hb : ¬ p → SameUpTo f b b') : SameUpTo f (if p then a else b) (if p then a' else b') := by
  by_cases h : p
  · rw [if_pos h, if_pos h]
    exact ha h
  · rw [if_neg h, if_neg h]
    exact hb h

end SameUpTo

/-- The update `f` writes nothing of the operand and nothing of the response. -/
structure IsUnseen (f : State → State) : Prop where
  operand : ∀ s : State, SameOperand s (f s)
  respond : ∀ (s : State) (status : BitVec 16) (res0 : BitVec 64) (res1 : BitVec 32),
    (f s).respond status res0 res1 = f (s.respond status res0 res1)

theorem IsUnseen.exec_sameUpTo {f : State → State} (hf : IsUnseen f) (s : State) {i : Instr}
    (hi : i ∈ frameViewCommands ++ packetViewCommands ++ [.crcCompute]) :
    SameUpTo f (exec i s) (exec i (f s)) := by
  obtain ⟨status, res0, res1, hr, hr'⟩ := (hf.operand s).exec_sameResponse hi
  rw [hr, hr', hf.respond]
  exact .carried _

/-- R16: the cursor with this value. -/
def State.setFrCur (cursor : BitVec 32) (s : State) : State := { s with frCur := cursor }

/-- R19: `EXPECTED` with this value. -/
def State.setExpected (counter : BitVec 8) (s : State) : State := { s with expected := counter }

theorem isUnseen_setFrCur (cursor : BitVec 32) : IsUnseen (State.setFrCur cursor) :=
  ⟨fun _ => ⟨rfl, rfl, rfl⟩, fun _ _ _ _ => rfl⟩

theorem isUnseen_setExpected (counter : BitVec 8) : IsUnseen (State.setExpected counter) :=
  ⟨fun _ => ⟨rfl, rfl, rfl⟩, fun _ _ _ _ => rfl⟩

/-! ## `FR_CUR` -/

section

variable (cursor : BitVec 32) (s : State)

/-- The work of X.ADD with this value in the cursor of its state. -/
def AddWork.setFrCur (w : AddWork) : AddWork := { w with st := w.st.setFrCur cursor }

theorem addContinuity_setFrCur (ctr : BitVec 8) (w : AddWork) :
    addContinuity ctr (w.setFrCur cursor) = (addContinuity ctr w).setFrCur cursor := by
  simp only [addContinuity, apply_ite (AddWork.setFrCur cursor)]
  rfl

theorem addCount_setFrCur (ctr : BitVec 8) (w : AddWork) :
    addCount ctr (w.setFrCur cursor) = (addCount ctr w).setFrCur cursor := by
  have hsame : (w.setFrCur cursor).st.started = w.st.started := rfl
  cases hstarted : w.st.started with
  | false =>
    rw [addCount_of_not_started hstarted, addCount_of_not_started (hsame.trans hstarted)]
    rfl
  | true =>
    rw [addCount_of_started hstarted, addCount_of_started (hsame.trans hstarted)]
    exact congrArg (AddWork.expectAfter · ctr) (addContinuity_setFrCur cursor ctr w.countLater)

theorem addStartWithPending_setFrCur (w : AddWork) :
    addStartWithPending (w.setFrCur cursor) = (addStartWithPending w).setFrCur cursor := by
  obtain ⟨st, first, gap, pos, rem, events⟩ := w
  cases gap <;> rfl

theorem addContWithoutPending_setFrCur (fhp : BitVec 11) (w : AddWork) :
    addContWithoutPending fhp (w.setFrCur cursor) = (addContWithoutPending fhp w).setFrCur cursor := by
  obtain ⟨st, first, gap, pos, rem, events⟩ := w
  cases gap
  · cases first <;> rfl
  · rfl

theorem addComplete_setFrCur (fhp : BitVec 11) (w : AddWork) :
    addComplete fhp (w.setFrCur cursor) = (addComplete fhp w).setFrCur cursor := by
  simp only [addComplete, apply_ite (AddWork.setFrCur cursor)]
  rfl

theorem addResolve_setFrCur (F : ReadSite → View) (fhp : BitVec 11) (w : AddWork) :
    addResolve F fhp (w.setFrCur cursor) = (addResolve F fhp w).setFrCur cursor := by
  simp only [addResolve, apply_ite (AddWork.setFrCur cursor), ← addStartWithPending_setFrCur,
    ← addContWithoutPending_setFrCur, addContinue_eq_addComplete_join, ← addComplete_setFrCur]
  rfl

theorem addPackets_setFrCur (F : ReadSite → View) (fuel : Nat) (w : AddWork) :
    addPackets F fuel (w.setFrCur cursor) = (addPackets F fuel w).setFrCur cursor := by
  induction fuel generalizing w with
  | zero => rfl
  | succ n ih =>
    simp only [addPackets, apply_ite (AddWork.setFrCur cursor), ← ih]
    rfl

/-- R173: X.ADD carries `FR_CUR` along. -/
theorem addAccepted_setFrCur (ctr : BitVec 8) (fhp : BitVec 11) (n : Nat) :
    addAccepted (s.setFrCur cursor) ctr fhp n = (addAccepted s ctr fhp n).setFrCur cursor := by
  have hbegin : addBegin (s.setFrCur cursor) n = (addBegin s n).setFrCur cursor := rfl
  have hview : (s.setFrCur cursor).view = s.view := rfl
  have hrem : ∀ w : AddWork, (w.setFrCur cursor).rem = w.rem := fun _ => rfl
  simp only [addAccepted, apply_ite (AddWork.setFrCur cursor), hbegin, hview, addCount_setFrCur,
    addResolve_setFrCur, hrem, addPackets_setFrCur]

theorem execXAdd_setFrCur :
    SameUpTo (State.setFrCur cursor) (execXAdd s) (execXAdd (s.setFrCur cursor)) := by
  refine .ite (fun _ => .ite (fun _ => .carried _) fun _ => .ite (fun _ => .carried _) fun _ => ?_) fun _ => .carried _
  refine ⟨_, _, rfl, rfl, .inr ?_⟩
  exact congrArg (fun w => w.st.commit w.events) (addAccepted_setFrCur cursor s _ _ _)

/-- R92, R93: without a reader FR.RDn fails before it looks at the cursor. -/
theorem fieldRead_setFrCur (n : Nat) (hbound : s.frBound = false) :
    SameUpTo (State.setFrCur cursor) (fieldRead n s) (fieldRead n (s.setFrCur cursor)) :=
  .ite (fun _ => .carried _) fun _ => .ite (fun _ => .carried _) fun h => absurd hbound h

/-- R33: without a reader no command reads `FR_CUR`; FR.BIND, which makes one, sets it. -/
theorem exec_setFrCur (i : Instr) (hbound : s.frBound = false) :
    SameUpTo (State.setFrCur cursor) (exec i s) (exec i (s.setFrCur cursor)) := by
  cases i with
  | frBind => exact .ite (fun _ => .carried _) fun _ => .same _
  | frRd1 | frRd2 | frRd4 | frRd8 => exact fieldRead_setFrCur cursor s _ hbound
  | frOfs => exact .ite (fun _ => .carried _) fun h => absurd hbound h
  | xAdd => exact execXAdd_setFrCur cursor s
  | xEnd => exact .ite (fun _ => .carried _) fun _ => .ite (fun _ => .carried _) fun _ => .carried _
  | xNproc | xNextr | xNmiss | xNlost => exact .carried _
  | _ => exact (isUnseen_setFrCur cursor).exec_sameUpTo s (by decide)

end

/-! ## `EXPECTED` -/

section

variable (counter : BitVec 8) (s : State)

/-- R155: the first frame sets `EXPECTED` and does not compare with it. -/
theorem addAccepted_setExpected (hstarted : s.started = false) (ctr : BitVec 8) (fhp : BitVec 11) (n : Nat) :
    addAccepted (s.setExpected counter) ctr fhp n = addAccepted s ctr fhp n := by
  have hcount : addCount ctr (addBegin (s.setExpected counter) n) = addCount ctr (addBegin s n) := by
    rw [addCount_of_not_started (w := addBegin s n) hstarted,
      addCount_of_not_started (w := addBegin (s.setExpected counter) n) hstarted]
    rfl
  have hview : (s.setExpected counter).view = s.view := rfl
  simp only [addAccepted, hcount, hview]

theorem execXAdd_setExpected (hstarted : s.started = false) :
    SameUpTo (State.setExpected counter) (execXAdd s) (execXAdd (s.setExpected counter)) := by
  refine .ite (fun _ => .ite (fun _ => .carried _) fun _ => .ite (fun _ => .carried _) fun _ => ?_) fun _ => .carried _
  refine ⟨_, _, rfl, rfl, .inl ?_⟩
  exact congrArg (fun w => w.st.commit w.events) (addAccepted_setExpected counter s hstarted _ _ _)

/-- R33: before the first frame no command reads `EXPECTED`; X.ADD, which takes that frame, sets it. -/
theorem exec_setExpected (i : Instr) (hstarted : s.started = false) :
    SameUpTo (State.setExpected counter) (exec i s) (exec i (s.setExpected counter)) := by
  cases i with
  | frBind => exact .ite (fun _ => .carried _) fun _ => .carried _
  | frRd1 | frRd2 | frRd4 | frRd8 =>
    exact .ite (fun _ => .carried _) fun _ => .ite (fun _ => .carried _) fun _ =>
      .ite (fun _ => .carried _) fun _ => .carried _
  | frOfs => exact .ite (fun _ => .carried _) fun _ => .carried _
  | xAdd => exact execXAdd_setExpected counter s hstarted
  | xEnd => exact .ite (fun _ => .carried _) fun _ => .ite (fun _ => .carried _) fun _ => .carried _
  | xNproc | xNextr | xNmiss | xNlost => exact .carried _
  | _ => exact (isUnseen_setExpected counter).exec_sameUpTo s (by decide)

end

/-- Settles O56, by the two noninterference lemmas above. -/
theorem unspecifiedRegistersAreNotRead : Obligations.UnspecifiedRegistersAreNotRead :=
  fun i s => ⟨fun hbound cursor => exec_setFrCur cursor s i hbound,
    fun hstarted counter => exec_setExpected counter s i hstarted⟩

end Sys2Proof.Machine
end

section
/-! What every command and every step does with the input of the block (spec/20_memory.md R40, R41, R46, R50, R52, R53):
no command stops the block or writes its input, the read-only commands do not look at the earlier response, and a step
takes exactly one host action and one draw of unwritten bytes. -/

namespace Sys2Proof.Machine

/-! ## Wide reads -/

/-- Settles O18, by induction on the bytes of the second read: each one multiplies both parts by 256. -/
theorem wideReadsAgreeWithNarrowReads : Obligations.WideReadsAgreeWithNarrowReads := by
  intro B i a b
  induction b with
  | zero => simp
  | succ b ih =>
    have hoffset : i + (a + b) = i + a + b := (Nat.add_assoc i a b).symm
    calc be B i (a + b + 1) = be B i (a + b) * 256 + (B (i + a + b)).toNat := by rw [be_succ, hoffset]
      _ = (be B i a * 256 ^ b + be B (i + a) b) * 256 + (B (i + a + b)).toNat := by rw [ih]
      _ = be B i a * 256 ^ (b + 1) + (be B (i + a) b * 256 + (B (i + a + b)).toNat) := by ring
      _ = be B i a * 256 ^ (b + 1) + be B (i + a) (b + 1) := by rw [be_succ]

/-! ## Commands -/

section

variable {i : Instr} {opcode : BitVec 8} {s t : State}

/-- R52: every command goes on. -/
theorem exec_next (i : Instr) (s : State) : ∃ t, exec i s = .next t := by
  rcases command_kinds i with hi | hi | rfl | rfl
  · obtain ⟨_, _, _, -, hr⟩ := exec_readOnly_respondsWith s hi
    exact ⟨_, hr⟩
  · obtain ⟨_, _, _, _, _, -, hr⟩ := exec_fieldReader_respondsWith s hi
    exact ⟨_, hr⟩
  · by_cases haccepts : s.addAccepts
    · exact ⟨_, execXAdd_accepted s haccepts⟩
    · obtain ⟨cls, -, -, hfail⟩ := execXAdd_rejected s haccepts
      exact ⟨s.fail cls, hfail⟩
  · show ∃ t, execXEnd s = .next t
    unfold execXEnd
    split
    · exact ⟨_, rfl⟩
    · split
      · exact ⟨_, rfl⟩
      · exact ⟨_, rfl⟩

/-- R74, R197: an opcode that names no command is answered too. -/
theorem issue_next (opcode : BitVec 8) (s : State) : ∃ t, issue opcode s = .next t := by
  cases hdec : decode opcode with
  | ok i => exact issue_of_decode_ok hdec s ▸ exec_next i s
  | error e => exact ⟨s.fail .badOpcode, by simp only [issue, hdec, answerBadOpcode]⟩

/-- R150: the extractor's registers are none of the input. -/
theorem State.GrowsTo.sameInput (h : s.GrowsTo t) : sameInput s t := by
  rw [h.frame]
  exact ⟨rfl, rfl, rfl, rfl, rfl, rfl⟩

/-- R41, R203, R17, R32: no command writes its input. -/
theorem exec_sameInput (h : exec i s = .next t) : sameInput s t := by
  cases exec_effect h with
  | reader frBound frCur status res0 res1 _ _ ht =>
    subst ht
    exact ⟨rfl, rfl, rfl, rfl, rfl, rfl⟩
  | extractor u events _ hgrows _ _ ht =>
    subst ht
    exact hgrows.sameInput

theorem issue_sameInput (h : issue opcode s = .next t) : sameInput s t := by
  rcases issue_cases h with ⟨i, -, hexec⟩ | rfl
  · exact exec_sameInput hexec
  · exact ⟨rfl, rfl, rfl, rfl, rfl, rfl⟩

/-- R50: a read-only command answers alike whatever response stands in the registers when it begins. -/
theorem exec_readOnly_sameResponse (hi : i ∈ readOnlyCommands) (s : State) (status : BitVec 16) (res0 : BitVec 64)
    (res1 : BitVec 32) :
    SameResponse s (s.respond status res0 res1) (exec i s) (exec i (s.respond status res0 res1)) := by
  have hoperand : SameOperand s (s.respond status res0 res1) := ⟨rfl, rfl, rfl⟩
  cases i with
  | frOfs => exact .ite Iff.rfl (.fail _) (.succeed _ _)
  | xNproc | xNextr | xNmiss | xNlost => exact .succeed _ _
  | frBind | frRd1 | frRd2 | frRd4 | frRd8 | xAdd | xEnd => exact absurd hi (by decide)
  | _ => exact hoperand.exec_sameResponse (by decide)

end

/-- Settles O52: the new response takes the place of an earlier one, which the command does not read. -/
theorem readOnlyCommandsLeaveOnlyAResponse : Obligations.ReadOnlyCommandsLeaveOnlyAResponse := by
  intro s i hi
  obtain ⟨status, res0, res1, -, hfirst⟩ := exec_readOnly_respondsWith s hi
  obtain ⟨status', res0', res1', hfirst', hsecond⟩ := exec_readOnly_sameResponse hi s status res0 res1
  refine ⟨s.respond status res0 res1, hfirst, rfl, ?_⟩
  calc exec i (s.respond status res0 res1)
      = .next ((s.respond status res0 res1).respond status' res0' res1') := hsecond
    _ = .next (s.respond status' res0' res1') := by rw [State.respond_respond]
    _ = .next (s.respond status res0 res1) := hfirst'.symm.trans hfirst

/-! ## Steps -/

section

variable {s t : State}

/-- R7, R53: the step of a well-formed host action goes on, with that action taken and the next draw made. -/
theorem step_next_of_wellFormed {a : HostAction} {rest : List HostAction} (hhost : s.host = a :: rest)
    (hwf : a.wellFormed s.params = true) : ∃ t, step s = .next t ∧ t.draws = s.draws + 1 ∧ t.host = rest := by
  cases a with
  | reset vcid => exact ⟨_, step_of_host_reset hhost, rfl, rfl⟩
  | load bytes => exact ⟨_, step_of_host_load hhost hwf, rfl, rfl⟩
  | writeIbuf offset b => exact ⟨_, step_of_host_writeIbuf hhost hwf, rfl, rfl⟩
  | writeIlen n => exact ⟨_, step_of_host_writeIlen hhost, rfl, rfl⟩
  | command opcode =>
    obtain ⟨t, hissue⟩ := issue_next opcode (s.takeAction rest)
    obtain ⟨-, -, -, -, hqueue, hdraws⟩ := issue_sameInput hissue
    exact ⟨t, (step_of_host_command hhost).trans hissue, hdraws, hqueue⟩

/-- R53: a step that takes a host action and goes on makes the next draw. -/
theorem step_draws_host {a : HostAction} {rest : List HostAction} (hhost : s.host = a :: rest)
    (h : step s = .next t) : t.draws = s.draws + 1 ∧ t.host = rest := by
  cases hwf : a.wellFormed s.params with
  | false => simp [step_of_host_illFormed hhost hwf] at h
  | true =>
    obtain ⟨u, hu, hkeeps⟩ := step_next_of_wellFormed hhost hwf
    obtain rfl : u = t := Host.Outcome.next.inj (hu.symm.trans h)
    exact hkeeps

/-- R32: no step writes a parameter, RESET included (log 16). -/
theorem step_params (h : step s = .next t) : t.params = s.params := by
  rcases step_cases h with ⟨-, rfl⟩ | ⟨vcid, rest, -, rfl⟩ | ⟨bytes, rest, -, rfl⟩ | ⟨offset, b, rest, -, rfl⟩ |
    ⟨n, rest, rfl⟩ | ⟨opcode, rest, -, hissue⟩
  · rfl
  · rfl
  · rfl
  · rfl
  · rfl
  · obtain ⟨-, -, -, hparams, -, -⟩ := issue_sameInput hissue
    exact hparams

/-! ## What a read of `IBUF` gives -/

/-- R53: a written byte reads as the byte written. -/
theorem State.view_of_lookup_some {r : ReadSite} {offset : Nat} {b : Byte}
    (h : Memory.lookup s.ibuf offset = some b) : s.view r offset = b := by
  simp only [State.view, h]

/-- R53, log 2: an unwritten byte reads as the draw of this step, this read and this offset. -/
theorem State.view_of_lookup_none {r : ReadSite} {offset : Nat} (h : Memory.lookup s.ibuf offset = none) :
    s.view r offset = Config.unwrittenByte s.draws r offset := by
  simp only [State.view, h]

end

/-! ## The statements -/

/-- Settles O7: commands go on, so does every well-formed host action, and an empty queue changes nothing. -/
theorem onlyAHostWriteOutsideIbufStops : Obligations.OnlyAHostWriteOutsideIbufStops := by
  refine ⟨exec_next, fun s a rest hhost hwf => step_of_host_illFormed hhost hwf, fun s hqueue => ?_⟩
  cases hhost : s.host with
  | nil => exact ⟨s, step_of_host_nil hhost⟩
  | cons a rest =>
    obtain ⟨t, hnext, -⟩ := step_next_of_wellFormed hhost (hqueue a rest hhost)
    exact ⟨t, hnext⟩

/-- Settles O13. -/
theorem unwrittenBytesAreDrawnAfresh : Obligations.UnwrittenBytesAreDrawnAfresh :=
  ⟨fun _ _ _ _ => State.view_of_lookup_some, fun _ _ _ => State.view_of_lookup_none,
    fun _ _ _ _ => step_draws_host⟩

/-- Settles O53: the input by the effects of a command, `OUT` by what a command never takes back. -/
theorem noCommandWritesItsInput : Obligations.NoCommandWritesItsInput := by
  refine ⟨fun i s t h => ⟨exec_sameInput h, ?_⟩, fun s t => step_params⟩
  obtain ⟨-, -, -, -, -, -, happend⟩ := exec_nothingTakenBack h
  exact happend

end Sys2Proof.Machine
end

section
/-! Encoding (spec/30_encoding.md R72, R73, R74, R79): `decode` and `encode` undo each other, the command table lists
exactly the pairs they give, an opcode outside it is answered with `BadOpcode`, and what a LOAD leaves. -/

namespace Sys2Proof.Machine

/-! ## Opcodes and commands -/

/-- R72, R73: the round trip, command by command. -/
@[simp] theorem decode_encode (i : Instr) : decode (encode i) = .ok i := by
  cases i
  exacts [Laws.RoundTrip.frBind, Laws.RoundTrip.frRd1, Laws.RoundTrip.frRd2, Laws.RoundTrip.frRd4,
    Laws.RoundTrip.frRd8, Laws.RoundTrip.frOfs, Laws.RoundTrip.fvValidate, Laws.RoundTrip.fvScid,
    Laws.RoundTrip.fvVcid, Laws.RoundTrip.fvMcfc, Laws.RoundTrip.fvVcfc, Laws.RoundTrip.fvOcf,
    Laws.RoundTrip.fvFhp, Laws.RoundTrip.fvData, Laws.RoundTrip.pvValidate, Laws.RoundTrip.pvApid,
    Laws.RoundTrip.pvSeq, Laws.RoundTrip.pvLen, Laws.RoundTrip.pvStype, Laws.RoundTrip.pvSsub,
    Laws.RoundTrip.pvDest, Laws.RoundTrip.pvTime, Laws.RoundTrip.pvPec, Laws.RoundTrip.pvPayload,
    Laws.RoundTrip.crcCompute, Laws.RoundTrip.xAdd, Laws.RoundTrip.xEnd, Laws.RoundTrip.xNproc,
    Laws.RoundTrip.xNextr, Laws.RoundTrip.xNmiss, Laws.RoundTrip.xNlost]

/-- R72, R73: each branch of `decode` fixes every bit of the opcode; they are the bits `encode` gives its command. -/
theorem encode_eq_of_decode_ok {opcode : BitVec 8} {i : Instr} (h : decode opcode = .ok i) : encode i = opcode := by
  unfold decode at h
  split at h <;> cases h <;> exact BitVec.eq_of_toNat_eq (Eq.symm ‹opcode.toNat = _›)

theorem decode_eq_ok_iff {opcode : BitVec 8} {i : Instr} : decode opcode = .ok i ↔ encode i = opcode :=
  ⟨encode_eq_of_decode_ok, fun h => h ▸ decode_encode i⟩

/-! ## The command table -/

theorem encode_mem_opcodeTable (i : Instr) : (encode i, i) ∈ opcodeTable := by
  cases i <;> decide

theorem encode_eq_of_mem_opcodeTable : ∀ row ∈ opcodeTable, encode row.2 = row.1 := by
  decide

/-- R72: the table is the graph of `decode`. -/
theorem mem_opcodeTable_iff {opcode : BitVec 8} {i : Instr} : (opcode, i) ∈ opcodeTable ↔ decode opcode = .ok i := by
  rw [decode_eq_ok_iff]
  constructor
  · exact encode_eq_of_mem_opcodeTable (opcode, i)
  · rintro rfl
    exact encode_mem_opcodeTable i

/-- R72, R74: the opcodes of the table are those that decode. -/
theorem mem_opcodes_iff {opcode : BitVec 8} : opcode ∈ opcodeTable.map Prod.fst ↔ ∃ i, decode opcode = .ok i := by
  simp [mem_opcodeTable_iff]

/-- R73: the ranges of the unit and operation nibbles hold the opcodes of the table and no others, seen over all 256. -/
theorem opcodeAssigned_iff_mem_opcodes :
    ∀ opcode : BitVec 8, opcodeAssigned opcode = true ↔ opcode ∈ opcodeTable.map Prod.fst := by
  decide

/-! ## Unassigned opcodes -/

/-- R13, R190: `BadOpcode` is class 6, in the lowest field of `STATUS`. -/
theorem statusWord_badOpcode : statusWord 0#8 0#4 ErrClass.badOpcode.code = 0x0006#16 := by
  decide

/-- R74, R197: an opcode outside the table does not decode, so it takes the error response. -/
theorem issue_of_not_mem_opcodes {opcode : BitVec 8} (h : opcode ∉ opcodeTable.map Prod.fst) (s : State) :
    issue opcode s = .next (s.fail .badOpcode) := by
  cases hdec : decode opcode with
  | ok i => exact absurd (mem_opcodes_iff.2 ⟨i, hdec⟩) h
  | error e => simp only [issue, hdec, answerBadOpcode]

/-- R74: how many of the 256 opcodes are unassigned. -/
theorem length_unassigned_opcodes :
    ((List.range 256).filter fun n => !(opcodeTable.map Prod.fst).contains (BitVec.ofNat 8 n)).length = 225 := by
  decide +kernel

/-! ## The statements -/

/-- Settles O11: the lookup after a run of writes that starts at offset 0. -/
theorem loadWritesBufferAndLength : Obligations.LoadWritesBufferAndLength := by
  intro s bytes rest hhost hcap hlen
  have hwf : (HostAction.load bytes).wellFormed s.params = true :=
    Bool.and_eq_true_iff.2 ⟨decide_eq_true hcap, decide_eq_true hlen⟩
  refine ⟨Memory.writeRun s.ibuf 0 bytes, step_of_host_load hhost hwf, fun offset => ?_⟩
  simpa using Memory.lookup_writeRun s.ibuf 0 bytes offset

/-- Settles O1. -/
theorem decodeOfEncodeGivesTheCommand : Obligations.DecodeOfEncodeGivesTheCommand :=
  fun i _ => decode_encode i

/-- Settles O2. -/
theorem decodedOpcodeIsTheCommandsOpcode : Obligations.DecodedOpcodeIsTheCommandsOpcode :=
  fun _ _ => encode_eq_of_decode_ok

/-- Settles O3: the rows are the graph of `decode`, and the ranges hold the opcodes of the rows. -/
theorem commandTableDecodes : Obligations.CommandTableDecodes :=
  ⟨fun _ => mem_opcodeTable_iff.1, fun opcode => (opcodeAssigned_iff_mem_opcodes opcode).trans mem_opcodes_iff⟩

/-- Settles O4: the opcode is taken from the queue, is not found in the table, and gets the error response. -/
theorem unassignedOpcodeAnswersBadOpcode : Obligations.UnassignedOpcodeAnswersBadOpcode := by
  refine ⟨rfl, length_unassigned_opcodes, fun s opcode rest hhost hopcode => ?_⟩
  calc step s = issue opcode (s.takeAction rest) := step_of_host_command hhost
    _ = .next ((s.takeAction rest).fail .badOpcode) := issue_of_not_mem_opcodes hopcode _
    _ = .next ((s.takeAction rest).respond 0x0006#16 0#64 0#32) := by
      rw [State.fail_eq_respond, statusWord_badOpcode]

end Sys2Proof.Machine
end

section
/-! The FieldReader (spec/40_fieldreader.md R90 to R99): when a read succeeds and the one state it then leaves; what two
reads in a row return. -/

namespace Sys2Proof.Machine

/-! ## Big-endian numbers of four and eight bytes -/

/-- R46: two reads of two bytes. -/
theorem be_four (B : View) (i : Nat) :
    be B i 4 = (B i).toNat * 2 ^ 24 + (B (i + 1)).toNat * 2 ^ 16 + (B (i + 2)).toNat * 2 ^ 8 +
      (B (i + 3)).toNat := by
  have hhalves : be B i 4 = be B i 2 * 256 ^ 2 + be B (i + 2) 2 := wideReadsAgreeWithNarrowReads B i 2 2
  rw [hhalves, be_two, be_two]
  ring

/-- R46: two reads of four bytes. -/
theorem be_eight (B : View) (i : Nat) :
    be B i 8 = (B i).toNat * 2 ^ 56 + (B (i + 1)).toNat * 2 ^ 48 + (B (i + 2)).toNat * 2 ^ 40 +
      (B (i + 3)).toNat * 2 ^ 32 + (B (i + 4)).toNat * 2 ^ 24 + (B (i + 5)).toNat * 2 ^ 16 +
      (B (i + 6)).toNat * 2 ^ 8 + (B (i + 7)).toNat := by
  have hhalves : be B i 8 = be B i 4 * 256 ^ 4 + be B (i + 4) 4 := wideReadsAgreeWithNarrowReads B i 4 4
  rw [hhalves, be_four, be_four]
  ring

/-- R8, R44: up to eight bytes fit in `RES0`. -/
theorem toNat_ofNat_be (B : View) (i : Nat) {n : Nat} (hn : n ≤ 8) :
    (BitVec.ofNat 64 (be B i n)).toNat = be B i n := by
  rw [BitVec.toNat_ofNat]
  refine Nat.mod_eq_of_lt ?_
  calc be B i n < 256 ^ n := be_lt B i n
    _ ≤ 256 ^ 8 := Nat.pow_le_pow_right (by omega) hn
    _ = 2 ^ 64 := by norm_num

/-- R53: on a loaded buffer a number below `ILEN` is that of the bytes written. -/
theorem State.be_view_of_loaded {s : State} (hloaded : s.loaded) (r : ReadSite) {i n : Nat} (hrange : i + n ≤ s.len) :
    be (s.view r) i n = be s.bytes i n :=
  be_congr _ _ _ _ _ fun k hk => s.view_of_written r (i + k) (hloaded _ (by omega))

/-! ## Error responses -/

/-- R191, R192: class 1 in `ERR`. -/
theorem State.fail_invalidArgument (s : State) : s.fail .invalidArgument = s.respond 0x0001#16 0#64 0#32 := by
  have hword : statusWord 0#8 0#4 ErrClass.invalidArgument.code = 0x0001#16 := by decide
  rw [State.fail_eq_respond, hword]

/-- R191, R193: class 2 in `ERR`. -/
theorem State.fail_outOfBounds (s : State) : s.fail .outOfBounds = s.respond 0x0002#16 0#64 0#32 := by
  have hword : statusWord 0#8 0#4 ErrClass.outOfBounds.code = 0x0002#16 := by decide
  rw [State.fail_eq_respond, hword]

/-- R190: no error class has the code of OK. -/
theorem State.fail_status_ne_zero (s : State) (cls : ErrClass) : (s.fail cls).status ≠ 0#16 := by
  rw [State.fail_eq_respond, State.respond_status]
  cases cls <;> decide

/-! ## A read -/

/-- R92, D5: a reader exists, and the `n` bytes at its cursor lie below `ILEN`. -/
structure State.Readable (s : State) (n : Nat) : Prop where
  bound : s.frBound = true
  capacity : s.len ≤ s.params.ibufCap
  range : s.frCur.toNat + n ≤ s.len

/-- R93: what a successful FR.RDn leaves. -/
def State.afterRead (s : State) (n : Nat) : State :=
  (s.setReader s.frBound (s.frCur + BitVec.ofNat 32 n)).respond 0#16
    (BitVec.ofNat 64 (be (s.view .field) s.frCur.toNat n)) 0#32

/-- R94 to R97: each FR.RDn is the read of its width. -/
theorem exec_of_mem_fieldReads {p : Nat × Instr} (hp : p ∈ fieldReads) (s : State) :
    exec p.2 s = fieldRead p.1 s := by
  fin_cases hp <;> rfl

theorem width_le_of_mem_fieldReads : ∀ p ∈ fieldReads, p.1 ≤ 8 := by decide

section

variable {s t u : State} {n a b : Nat}

theorem fieldRead_of_badArgument (h : s.params.ibufCap < s.len ∨ s.frBound = false) :
    fieldRead n s = .next (s.fail .invalidArgument) := by
  rcases fieldRead_cases n s with ⟨-, hr⟩ | ⟨-, -, hr⟩ | ⟨hcap, hbound, -⟩ | ⟨hcap, hbound, -⟩
  · exact hr
  · exact hr
  · simp [hbound, hcap.not_gt] at h
  · simp [hbound, hcap.not_gt] at h

theorem fieldRead_of_pastTheEnd (hcap : s.len ≤ s.params.ibufCap) (hbound : s.frBound = true)
    (hrange : s.len < s.frCur.toNat + n) : fieldRead n s = .next (s.fail .outOfBounds) := by
  rcases fieldRead_cases n s with ⟨hover, -⟩ | ⟨-, hnone, -⟩ | ⟨-, -, -, hr⟩ | ⟨-, -, hin, -⟩
  · omega
  · simp [hbound] at hnone
  · exact hr
  · omega

theorem fieldRead_of_readable (h : s.Readable n) : fieldRead n s = .next (s.afterRead n) := by
  rcases fieldRead_cases n s with ⟨hover, -⟩ | ⟨-, hnone, -⟩ | ⟨-, -, hout, -⟩ | ⟨-, -, -, hr⟩
  · exact absurd h.capacity (by omega)
  · simp [h.bound] at hnone
  · exact absurd h.range (by omega)
  · rw [hr, BitVec.ofNat_add, BitVec.ofNat_toNat, BitVec.setWidth_eq]
    rfl

/-- R93: the read in range, with the number at the cursor in another form. -/
theorem fieldRead_of_be_eq {value : Nat} (h : s.Readable n) (hvalue : be (s.view .field) s.frCur.toNat n = value) :
    fieldRead n s = .next ((s.setReader s.frBound (s.frCur + BitVec.ofNat 32 n)).respond 0#16
      (BitVec.ofNat 64 value) 0#32) :=
  hvalue ▸ fieldRead_of_readable h

theorem fieldRead_of_not_readable (h : ¬ s.Readable n) : ∃ cls, fieldRead n s = .next (s.fail cls) := by
  rcases fieldRead_cases n s with ⟨-, hr⟩ | ⟨-, -, hr⟩ | ⟨-, -, -, hr⟩ | ⟨hcap, hbound, hrange, -⟩
  · exact ⟨_, hr⟩
  · exact ⟨_, hr⟩
  · exact ⟨_, hr⟩
  · exact absurd ⟨hbound, hcap, hrange⟩ h

/-- R99 (a), (b): a read that answers OK was in range and left `afterRead`. -/
theorem readable_and_eq_afterRead_of_ok (h : fieldRead n s = .next t) (hok : t.status = 0#16) :
    s.Readable n ∧ t = s.afterRead n := by
  by_cases hreadable : s.Readable n
  · exact ⟨hreadable, Host.Outcome.next.inj (h.symm.trans (fieldRead_of_readable hreadable))⟩
  · obtain ⟨cls, hfail⟩ := fieldRead_of_not_readable hreadable
    obtain rfl : t = s.fail cls := Host.Outcome.next.inj (h.symm.trans hfail)
    exact absurd hok (s.fail_status_ne_zero cls)

/-- R16, R92: the cursor stays at or below `ILEN`, so it does not wrap. -/
theorem State.Readable.afterRead_frCur (h : s.Readable n) : (s.afterRead n).frCur.toNat = s.frCur.toNat + n := by
  have hlen : s.len < 2 ^ 32 := s.ilen.isLt
  have hrange := h.range
  show (s.frCur + BitVec.ofNat 32 n).toNat = s.frCur.toNat + n
  rw [BitVec.toNat_add, BitVec.toNat_ofNat]
  omega

/-- R93: on a loaded buffer `RES0` is the number of the bytes written at the cursor. -/
theorem State.Readable.afterRead_res0 (h : s.Readable n) (hn : n ≤ 8) (hloaded : s.loaded) :
    (s.afterRead n).res0.toNat = be s.bytes s.frCur.toNat n :=
  (toNat_ofNat_be _ _ hn).trans (State.be_view_of_loaded hloaded .field h.range)

/-- R99 (c): two successful reads in a row, the second under any draw and with any host actions to come. -/
theorem fieldRead_fieldRead_res0 (ha : a ≤ 8) (hb : b ≤ 8) (draws : Nat) (host : List HostAction)
    (hloaded : s.loaded) (hfirst : fieldRead a s = .next t) (hokFirst : t.status = 0#16)
    (hsecond : fieldRead b { t with draws := draws, host := host } = .next u) (hokSecond : u.status = 0#16) :
    t.res0.toNat * 2 ^ (8 * b) + u.res0.toNat = be s.bytes s.frCur.toNat (a + b) := by
  obtain ⟨hreadable, rfl⟩ := readable_and_eq_afterRead_of_ok hfirst hokFirst
  obtain ⟨hreadable', rfl⟩ := readable_and_eq_afterRead_of_ok hsecond hokSecond
  have hnumber := hreadable.afterRead_res0 ha hloaded
  have hnumber' : (State.afterRead { s.afterRead a with draws := draws, host := host } b).res0.toNat =
      be s.bytes (s.afterRead a).frCur.toNat b := hreadable'.afterRead_res0 hb hloaded
  rw [hnumber, hnumber', hreadable.afterRead_frCur, pow_mul]
  exact (wideReadsAgreeWithNarrowReads s.bytes s.frCur.toNat a b).symm

/-- R99 (c): where two reads in a row are in range, so is one of both widths. -/
theorem State.Readable.add (ha : s.Readable a) (hb : (s.afterRead a).Readable b) : s.Readable (a + b) := by
  have hrange : (s.afterRead a).frCur.toNat + b ≤ s.len := hb.range
  rw [ha.afterRead_frCur] at hrange
  exact ⟨ha.bound, ha.capacity, by omega⟩

end

/-! ## FR.BIND and FR.OFS -/

theorem State.len_eq_zero_iff (s : State) : s.len = 0 ↔ s.ilen = 0#32 :=
  BitVec.toNat_inj (y := 0#32)

section

variable {s : State}

/-- R91: the failed constructor leaves no reader. -/
theorem execFrBind_of_badArgument (h : s.len = 0 ∨ s.params.ibufCap < s.len) :
    execFrBind s = .next ((s.setReader false s.frCur).fail .invalidArgument) :=
  if_pos h

/-- R91: the reader stands at offset 0. -/
theorem execFrBind_of_goodArgument (h : ¬ (s.len = 0 ∨ s.params.ibufCap < s.len)) :
    execFrBind s = .next ((s.setReader true 0#32).succeed 0#64 0#32) :=
  if_neg h

theorem execFrOfs_of_unbound (h : s.frBound = false) : execFrOfs s = .next (s.fail .invalidArgument) :=
  if_pos h

theorem execFrOfs_of_bound (h : s.frBound = true) : execFrOfs s = .next (s.succeed (s.frCur.setWidth 64) 0#32) :=
  if_neg (ne_false_of_eq_true h)

end

/-! ## The statements -/

/-- Settles O14: the two outcomes of FR.BIND, its test read as one of the register `ILEN`. -/
theorem frBindConstructsAReader : Obligations.FrBindConstructsAReader := by
  intro s
  refine ⟨fun hbad => ?_, fun hne hcap => ?_⟩
  · rw [exec, execFrBind_of_badArgument (hbad.imp_left s.len_eq_zero_iff.mpr), State.fail_invalidArgument]
    rfl
  · exact execFrBind_of_goodArgument (not_or.mpr ⟨mt s.len_eq_zero_iff.mp hne, hcap.not_gt⟩)

/-- Settles O16: the two outcomes of FR.OFS. -/
theorem frOfsReturnsTheCursor : Obligations.FrOfsReturnsTheCursor := by
  intro s
  refine ⟨fun hnone => ?_, fun hbound => ?_⟩
  · rw [exec, execFrOfs_of_unbound hnone, State.fail_invalidArgument]
    rfl
  · rw [BitVec.ofNat_toNat]
    exact execFrOfs_of_bound hbound

/-- Settles O15: the three ways of a read, and the number it returns written out for each width. -/
theorem fieldReadsReturnBigEndianNumbers : Obligations.FieldReadsReturnBigEndianNumbers := by
  intro s c B hc hB
  subst hc
  refine ⟨fun p hp => ?_, fun hcap hbound => ?_⟩
  · rw [exec_of_mem_fieldReads hp]
    refine ⟨fun hbad => ?_, fun hcap hbound hrange => ?_⟩
    · rw [fieldRead_of_badArgument hbad, State.fail_invalidArgument]
      rfl
    · rw [fieldRead_of_pastTheEnd hcap hbound hrange, State.fail_outOfBounds]
      rfl
  · refine ⟨fun hrange => fieldRead_of_be_eq ⟨hbound, hcap, hrange⟩ ?_,
      fun hrange => fieldRead_of_be_eq ⟨hbound, hcap, hrange⟩ ?_,
      fun hrange => fieldRead_of_be_eq ⟨hbound, hcap, hrange⟩ ?_,
      fun hrange => fieldRead_of_be_eq ⟨hbound, hcap, hrange⟩ ?_⟩
    · simp only [be_one, hB, Nat.add_zero]
    · simp only [be_two, hB, Nat.add_zero, Nat.reducePow]
    · simp only [be_four, hB, Nat.add_zero]
    · simp only [be_eight, hB, Nat.add_zero]

/-- Settles O17: (a) and (b) by whether the read is in range; (c) by what two reads in a row return, and with it FR.RD8
against two FR.RD4; (d) by the effect of a FieldReader command. -/
theorem fieldReaderLaws : Obligations.FieldReaderLaws := by
  intro s hbound
  refine ⟨fun p hp => ⟨fun hin hcap => ?_, fun hout => ?_⟩, ?_, ?_, ?_⟩
  · have hreadable : s.Readable p.1 := ⟨hbound, hcap, hin⟩
    rw [exec_of_mem_fieldReads hp]
    exact ⟨_, fieldRead_of_readable hreadable, rfl, hreadable.afterRead_frCur⟩
  · have hnot : ¬ s.Readable p.1 := fun hreadable => hout ⟨hreadable.range, hreadable.capacity⟩
    obtain ⟨cls, hfail⟩ := fieldRead_of_not_readable hnot
    rw [exec_of_mem_fieldReads hp]
    exact ⟨_, hfail, s.fail_status_ne_zero cls, rfl⟩
  · intro p hp q hq t u draws host hloaded hfirst hokFirst hsecond hokSecond
    rw [exec_of_mem_fieldReads hp] at hfirst
    rw [exec_of_mem_fieldReads hq] at hsecond
    exact fieldRead_fieldRead_res0 (width_le_of_mem_fieldReads p hp) (width_le_of_mem_fieldReads q hq) draws host
      hloaded hfirst hokFirst hsecond hokSecond
  · intro t u v hloaded hfirst hokFirst hsecond hokSecond hwide
    have hjoin : t.res0.toNat * 2 ^ 32 + u.res0.toNat = be s.bytes s.frCur.toNat 8 :=
      fieldRead_fieldRead_res0 (a := 4) (b := 4) (by omega) (by omega) t.draws t.host hloaded hfirst hokFirst hsecond
        hokSecond
    obtain ⟨hreadable, rfl⟩ := readable_and_eq_afterRead_of_ok hfirst hokFirst
    obtain ⟨hreadable', -⟩ := readable_and_eq_afterRead_of_ok hsecond hokSecond
    have hreadableWide : s.Readable 8 := hreadable.add hreadable'
    obtain rfl : v = s.afterRead 8 := Host.Outcome.next.inj (hwide.symm.trans (fieldRead_of_readable hreadableWide))
    exact ⟨rfl, (hreadableWide.afterRead_res0 le_rfl hloaded).trans hjoin.symm⟩
  · intro i hi t hexec
    obtain ⟨frBound, frCur, status, res0, res1, -, heffect⟩ := exec_fieldReader_respondsWith s hi
    obtain rfl : t = _ := Host.Outcome.next.inj (hexec.symm.trans heffect)
    exact ⟨rfl, rfl, ⟨rfl, rfl, rfl, rfl, rfl, rfl, rfl, rfl, rfl⟩, rfl⟩

end Sys2Proof.Machine
end

section
/-! The FrameView (spec/41_frameview.md R100 to R111): the fields of a Transfer Frame as numbers, when the constructor
check fails, and what FV.VALIDATE and FV.DATA answer on a frame. -/

namespace Sys2Proof.Machine

/-! ## Bits of a byte -/

section

variable {w n : Nat}

/-- R8: a field is a given word exactly when their bits are the same. -/
theorem extractLsb'_eq_iff (x : BitVec w) (i : Nat) (a : BitVec n) :
    x.extractLsb' i n = a ↔ ∀ k < n, x.getLsbD (i + k) = a.getLsbD k := by
  constructor
  · rintro rfl k hk
    simp [hk]
  · intro hbits
    refine BitVec.eq_of_getLsbD_eq fun k hk => ?_
    simp [hk, hbits k hk]

/-- R61, R63: a field of one bit, where it differs from its value. -/
theorem extractLsb'_one_bne_iff (x : BitVec w) (i : Nat) (a : BitVec 1) :
    (x.extractLsb' i 1 != a) = true ↔ x.getLsbD i = !a.getLsbD 0 := by
  rw [bne_iff_ne, ne_eq, extractLsb'_eq_iff, Nat.forall_lt_succ_right]
  simp [Bool.eq_not]

/-- R61, R63: a field of two bits, where it differs from its value. -/
theorem extractLsb'_two_bne_iff (x : BitVec w) (i : Nat) (a : BitVec 2) :
    (x.extractLsb' i 2 != a) = true ↔ ¬ (x.getLsbD (i + 1) = a.getLsbD 1 ∧ x.getLsbD i = a.getLsbD 0) := by
  rw [bne_iff_ne, ne_eq, extractLsb'_eq_iff, Nat.forall_lt_succ_right, Nat.forall_lt_succ_right, and_comm]
  simp

/-- R8: the number of a field is cut out by a shift and a mask. -/
theorem extractLsb'_toNat_eq_and (x : BitVec w) (i n : Nat) :
    (x.extractLsb' i n).toNat = (x.toNat >>> i) &&& (2 ^ n - 1) := by
  rw [BitVec.extractLsb'_toNat, Nat.and_two_pow_sub_one_eq_mod]

/-- R8: in `a ++ b` the bits of `b` are the low ones. -/
theorem append_toNat_eq_add (x : BitVec w) (y : BitVec n) : (x ++ y).toNat = x.toNat * 2 ^ n + y.toNat := by
  rw [BitVec.toNat_append, ← Nat.shiftLeft_add_eq_or_of_lt y.isLt, Nat.shiftLeft_eq]

end

/-! ## Frame fields as numbers -/

section

variable (F : View)

theorem frameScid_toNat : (frameScid F).toNat = ((F 0).toNat &&& 0x3F) * 16 + ((F 1).toNat >>> 4) := by
  have hhigh : (F 1).toNat >>> 4 < 2 ^ 4 := by
    have := (F 1).isLt
    rw [Nat.shiftRight_eq_div_pow]
    omega
  rw [frameScid, append_toNat_eq_add, extractLsb'_toNat_eq_and, BitVec.extractLsb'_toNat, Nat.mod_eq_of_lt hhigh]
  rfl

theorem frameVcid_toNat : (frameVcid F).toNat = ((F 1).toNat >>> 1) &&& 7 :=
  extractLsb'_toNat_eq_and (F 1) 1 3

theorem frameOcf_toNat : (frameOcf F).toNat = (F 1).toNat &&& 1 :=
  extractLsb'_toNat_eq_and (F 1) 0 1

theorem frameFhp_toNat : (frameFhp F).toNat = ((F 4).toNat &&& 7) * 256 + (F 5).toNat := by
  rw [frameFhp, append_toNat_eq_add, extractLsb'_toNat_eq_and]
  rfl

/-- R64: the headers, with the operational control field where the frame has one. -/
theorem frameHdr_eq : frameHdr F = 10 + 4 * ((F 1).toNat &&& 1) := by
  rw [frameHdr, frameOcf_toNat]

/-- R61: version 0 is the range of the first byte below 0x40. -/
theorem frameVersion_eq_zero_iff : frameVersion F = 0#2 ↔ (F 0).toNat < 0x40 := by
  have := (F 0).isLt
  rw [frameVersion, ← BitVec.toNat_inj, BitVec.extractLsb'_toNat, Nat.shiftRight_eq_div_pow]
  simp only [BitVec.toNat_ofNat]
  omega

/-- R63, R103: the profile of the fifth byte fixes its five high bits to 10011. -/
theorem frameProfile_iff :
    (frameSechdr F = 1#1 ∧ frameSync F = 0#1 ∧ frameOrder F = 0#1 ∧ frameSeglen F = 3#2) ↔
      0x98 ≤ (F 4).toNat ∧ (F 4).toNat ≤ 0x9F := by
  have := (F 4).isLt
  simp only [frameSechdr, frameSync, frameOrder, frameSeglen, ← BitVec.toNat_inj, BitVec.extractLsb'_toNat,
    Nat.shiftRight_eq_div_pow, BitVec.toNat_ofNat]
  omega

end

/-! ## The constructor check -/

section

variable {s : State}

/-- R101: the three ways in which a buffer is no frame. -/
theorem State.not_frameOk_iff :
    ¬ s.frameOk ↔ s.len < 7 ∨ 65535 < s.len ∨ s.params.ibufCap < s.len := by
  rw [not_and_or, not_and_or, not_le, not_le, not_le]

/-- R101: the check is the first step of every FV.* command and of X.ADD. -/
theorem exec_of_not_frameOk {i : Instr} (hi : i ∈ frameViewCommands ++ [Instr.xAdd]) (h : ¬ s.frameOk) :
    exec i s = .next (s.fail .invalidArgument) := by
  cases i with
  | fvValidate | fvScid | fvVcid | fvMcfc | fvVcfc | fvOcf | fvFhp | fvData | xAdd => exact if_neg h
  | _ => exact absurd hi (by decide)

/-- R102: on a frame an accessor returns the number of its field. -/
theorem frameAccessor_of_frameOk {w n : Nat} (h : s.frameOk) {field : BitVec w} (hfield : field.toNat = n) :
    frameAccessor s (field.setWidth 64) = .next (s.respond 0#16 (BitVec.ofNat 64 n) 0#32) := by
  rw [← hfield, BitVec.ofNat_toNat]
  exact if_pos h

/-- R104: on a frame FV.VALIDATE reports the violated rules. -/
theorem execFvValidate_of_frameOk (h : s.frameOk) :
    execFvValidate s =
      .next (s.respond (validationStatus .malformedFrame (frameViolations s)) 0#64 0#32) :=
  if_pos h

/-- R111: a frame that is shorter than its own headers. -/
theorem execFvData_of_len_lt (h : s.frameOk) (hshort : s.len < frameHdr (s.view .field)) :
    execFvData s = .next (s.fail .outOfBounds) :=
  (if_pos h).trans (if_pos hshort)

/-- R111: the data zone lies behind the headers. -/
theorem execFvData_of_hdr_le (h : s.frameOk) (hfit : frameHdr (s.view .field) ≤ s.len) :
    execFvData s = .next (s.respond 0#16 10#64 (BitVec.ofNat 32 (s.len - frameHdr (s.view .field)))) :=
  (if_pos h).trans (if_neg hfit.not_gt)

end

/-! ## Validation -/

/-- R13, R104, R124: a validate command answers OK exactly when no rule is violated. -/
theorem validationStatus_eq_zero_iff (cls : ErrClass) (m : BitVec 8) :
    validationStatus cls m = 0#16 ↔ m = 0#8 := by
  refine ⟨fun hstatus => ?_, fun hm => if_pos hm⟩
  by_contra hm
  rw [validationStatus, if_neg hm] at hstatus
  have hmask : m = statusVmask 0#16 := by rw [← hstatus, statusVmask_statusWord]
  exact hm (hmask.trans (by decide))

/-- R103: each bit of the mask is the test of its rule. -/
theorem frameViolations_bits (s : State) :
    (frameViolations s).getLsbD 0 = (frameVersion (s.view .frVersion) != 0#2) ∧
    (frameViolations s).getLsbD 1 = (frameSechdr (s.view .frSechdr) != 1#1) ∧
    (frameViolations s).getLsbD 2 = (frameSync (s.view .frSync) != 0#1) ∧
    (frameViolations s).getLsbD 3 = (frameOrder (s.view .frOrder) != 0#1) ∧
    (frameViolations s).getLsbD 4 = (frameSeglen (s.view .frSeglen) != 3#2) ∧
    (frameViolations s).getLsbD 5 = false ∧ (frameViolations s).getLsbD 6 = false ∧
    (frameViolations s).getLsbD 7 = false :=
  violationMask_bits _ _ _ _ _ _

/-- R103, R104: no frame rule is violated exactly when each of the five fields, at the read of its own rule, has its
value. -/
theorem frameViolations_eq_zero_iff (s : State) :
    frameViolations s = 0#8 ↔
      frameVersion (s.view .frVersion) = 0#2 ∧ frameSechdr (s.view .frSechdr) = 1#1 ∧
        frameSync (s.view .frSync) = 0#1 ∧ frameOrder (s.view .frOrder) = 0#1 ∧
        frameSeglen (s.view .frSeglen) = 3#2 := by
  simp only [frameViolations, violationMask_eq_zero, bne_eq_false_iff_eq, and_true]

/-- R53, R103, R104: on written bytes the four reads of the fifth byte agree, so its four rules are one range. -/
theorem frameViolations_eq_zero_iff_of_written {s : State} {f0 f4 : Byte} (h0 : Memory.lookup s.ibuf 0 = some f0)
    (h4 : Memory.lookup s.ibuf 4 = some f4) :
    frameViolations s = 0#8 ↔ f0.toNat < 0x40 ∧ 0x98 ≤ f4.toNat ∧ f4.toNat ≤ 0x9F := by
  have hversion : frameVersion (s.view .frVersion) = 0#2 ↔ f0.toNat < 0x40 := by
    rw [frameVersion_eq_zero_iff, State.view_of_lookup_some h0]
  have hprofile := frameProfile_iff (fun _ => f4)
  rw [frameViolations_eq_zero_iff, hversion, ← hprofile]
  simp only [frameSechdr, frameSync, frameOrder, frameSeglen, State.view_of_lookup_some h4]

/-! ## The statements -/

/-- Settles O22: `STATUS` is 0 exactly when the mask is, and the mask exactly when both bytes have the profile. -/
theorem framePassesExactlyWithProfileBytes : Obligations.FramePassesExactlyWithProfileBytes := by
  intro s f0 f4 hframe h0 h4
  refine ⟨_, execFvValidate_of_frameOk hframe, ?_⟩
  rw [State.respond_status, validationStatus_eq_zero_iff]
  exact frameViolations_eq_zero_iff_of_written h0 h4

/-- Settles O19: the buffer fails the constructor check, each command's first step. -/
theorem frameCommandsNeedAFrame : Obligations.FrameCommandsNeedAFrame := by
  intro s i hi hbad
  rw [exec_of_not_frameOk hi (State.not_frameOk_iff.mpr hbad), State.fail_invalidArgument]
  rfl

/-- Settles O20: the failing buffer by O19; on a frame, the number of each field. -/
theorem frameAccessorsReturnTheirFields : Obligations.FrameAccessorsReturnTheirFields := by
  intro s F hF
  obtain rfl : F = fun k => (s.view .field k).toNat := funext hF
  refine ⟨fun hbad i hi => ?_, fun h7 hmax hcap => ?_⟩
  · have hsub : ∀ j ∈ [Instr.fvScid, .fvVcid, .fvMcfc, .fvVcfc, .fvOcf, .fvFhp],
        j ∈ frameViewCommands ++ [Instr.xAdd] := by decide
    exact frameCommandsNeedAFrame s i (hsub i hi) hbad
  · have hframe : s.frameOk := ⟨h7, hmax, hcap⟩
    exact ⟨frameAccessor_of_frameOk hframe (frameScid_toNat _), frameAccessor_of_frameOk hframe (frameVcid_toNat _),
      frameAccessor_of_frameOk hframe rfl, frameAccessor_of_frameOk hframe rfl,
      frameAccessor_of_frameOk hframe (frameOcf_toNat _), frameAccessor_of_frameOk hframe (frameFhp_toNat _)⟩

/-- Settles O21: the mask is `frameViolations`, each of its bits the rule read off the bits of the field, and the cause
its lowest set bit. -/
theorem frameValidationReportsEveryViolatedRule : Obligations.FrameValidationReportsEveryViolatedRule := by
  intro s
  refine ⟨frameCommandsNeedAFrame s _ (by decide), fun h7 hmax hcap => ?_⟩
  obtain ⟨hversion, hsechdr, hsync, horder, hseglen, hbit5, hbit6, hbit7⟩ := frameViolations_bits s
  refine ⟨frameViolations s, lowestSetBit (frameViolations s), ?_, ?_, ?_, ?_, ?_, hbit5, hbit6, hbit7,
    lowestSetBit_spec _, execFvValidate_of_frameOk ⟨h7, hmax, hcap⟩⟩
  · exact hversion.congr_left.trans (extractLsb'_two_bne_iff _ 6 0#2)
  · exact hsechdr.congr_left.trans (extractLsb'_one_bne_iff _ 7 1#1)
  · exact hsync.congr_left.trans (extractLsb'_one_bne_iff _ 6 0#1)
  · exact horder.congr_left.trans (extractLsb'_one_bne_iff _ 5 0#1)
  · exact hseglen.congr_left.trans (extractLsb'_two_bne_iff _ 3 3#2)

/-- Settles O23: the length against that of the frame's own headers, which are longer than the shortest frame. -/
theorem fvDataGivesTheDataZone : Obligations.FvDataGivesTheDataZone := by
  intro s hdr hhdr
  rw [← frameHdr_eq] at hhdr
  subst hhdr
  refine ⟨frameCommandsNeedAFrame s _ (by decide), fun h7 hmax hcap hshort => ?_, fun hmax hcap hfit => ?_⟩
  · rw [exec, execFvData_of_len_lt ⟨h7, hmax, hcap⟩ hshort, State.fail_outOfBounds]
    rfl
  · have hten : 10 ≤ frameHdr (s.view .field) := Nat.le_add_right 10 _
    have h7 : 7 ≤ s.len := by unfold State.len; omega
    exact execFvData_of_hdr_le ⟨h7, hmax, hcap⟩ hfit

end Sys2Proof.Machine
end

section
/-! The PacketView (spec/42_packetview.md R120 to R133): the fields of a Space Packet as numbers, when the constructor
check fails, and what PV.VALIDATE reports, in general and on written bytes. -/

namespace Sys2Proof.Machine

/-! ## Packet fields as numbers -/

/-- R8: a field that ends at the most significant bit is cut out by a shift alone. -/
theorem extractLsb'_toNat_of_top {w i n : Nat} (x : BitVec w) (hw : w = i + n) :
    (x.extractLsb' i n).toNat = x.toNat >>> i := by
  have hlt : x.toNat >>> i < 2 ^ n := by
    rw [Nat.shiftRight_eq_div_pow]
    exact Nat.div_lt_of_lt_mul (by rw [← pow_add, ← hw]; exact x.isLt)
  rw [BitVec.extractLsb'_toNat, Nat.mod_eq_of_lt hlt]

/-- R46: a read of four bytes and one of two. -/
theorem be_six (B : View) (i : Nat) :
    be B i 6 = (B i).toNat * 2 ^ 40 + (B (i + 1)).toNat * 2 ^ 32 + (B (i + 2)).toNat * 2 ^ 24 +
      (B (i + 3)).toNat * 2 ^ 16 + (B (i + 4)).toNat * 2 ^ 8 + (B (i + 5)).toNat := by
  have hparts : be B i 6 = be B i 4 * 256 ^ 2 + be B (i + 4) 2 := wideReadsAgreeWithNarrowReads B i 4 2
  rw [hparts, be_four, be_two]
  ring

/-- R44, R71: the word of two bytes is the one byte in front of the other. -/
theorem ofNat_be_two (B : View) (i : Nat) : BitVec.ofNat 16 (be B i 2) = B i ++ B (i + 1) := by
  have hlt : be B i 2 < 2 ^ 16 := be_lt B i 2
  refine BitVec.eq_of_toNat_eq ?_
  rw [BitVec.toNat_ofNat, Nat.mod_eq_of_lt hlt, be_two, append_toNat_eq_add]
  rfl

section

variable (P : View)

theorem packetApid_toNat : (packetApid P).toNat = ((P 0).toNat &&& 7) * 256 + (P 1).toNat := by
  rw [packetApid, append_toNat_eq_add, extractLsb'_toNat_eq_and]
  rfl

theorem packetSeq_toNat : (packetSeq P).toNat = ((P 2).toNat &&& 0x3F) * 256 + (P 3).toNat := by
  rw [packetSeq, append_toNat_eq_add, extractLsb'_toNat_eq_and]
  rfl

theorem packetLength_eq : packetLength P = (P 4).toNat * 256 + (P 5).toNat + 7 := by
  rw [packetLength, be_two]

theorem packetVersion_toNat : (packetVersion P).toNat = (P 0).toNat >>> 5 :=
  extractLsb'_toNat_of_top (P 0) rfl

theorem packetSegFlags_toNat : (packetSegFlags P).toNat = (P 2).toNat >>> 6 :=
  extractLsb'_toNat_of_top (P 2) rfl

theorem packetVersion_bne_zero_iff : (packetVersion P != 0#3) = true ↔ (P 0).toNat >>> 5 ≠ 0 := by
  rw [bne_iff_ne, ← BitVec.toNat_ne_iff_ne, packetVersion_toNat]
  rfl

theorem packetType_bne_zero_iff : (packetType P != 0#1) = true ↔ (P 0).getLsbD 4 = true :=
  extractLsb'_one_bne_iff (P 0) 4 0#1

theorem packetDfhFlag_bne_one_iff : (packetDfhFlag P != 1#1) = true ↔ (P 0).getLsbD 3 = false :=
  extractLsb'_one_bne_iff (P 0) 3 1#1

theorem packetSegFlags_eq_three_iff : packetSegFlags P = 3#2 ↔ (P 2).toNat >>> 6 = 3 := by
  rw [← BitVec.toNat_inj, packetSegFlags_toNat]
  rfl

theorem packetSegFlags_bne_three_iff : (packetSegFlags P != 3#2) = true ↔ (P 2).toNat >>> 6 ≠ 3 :=
  bne_iff_ne.trans (packetSegFlags_eq_three_iff P).not

/-- R66, R123: the three header flags of the first byte fix its five high bits to 00001. -/
theorem packetFlags_iff :
    (packetVersion P = 0#3 ∧ packetType P = 0#1 ∧ packetDfhFlag P = 1#1) ↔ (P 0).toNat >>> 3 = 1 := by
  have := (P 0).isLt
  simp only [packetVersion, packetType, packetDfhFlag, ← BitVec.toNat_inj, BitVec.extractLsb'_toNat,
    Nat.shiftRight_eq_div_pow, BitVec.toNat_ofNat]
  omega

variable {P}

/-- R71: the trailer is the last two bytes of the packet. -/
theorem packetPec_eq {plen : Nat} (hplen : 2 ≤ plen) :
    packetPec P plen = (P (plen - 2)).toNat * 256 + (P (plen - 1)).toNat := by
  rw [packetPec, be_two, show plen - 2 + 1 = plen - 1 by omega]

/-- R71: the trailer as the word of its two bytes. -/
theorem ofNat_packetPec {plen : Nat} (hplen : 2 ≤ plen) :
    BitVec.ofNat 16 (packetPec P plen) = P (plen - 2) ++ P (plen - 1) := by
  rw [packetPec, ofNat_be_two, show plen - 2 + 1 = plen - 1 by omega]

/-- R131: the mask removes the two bytes in front of the time field. -/
theorem packetTime_eq_be {o : Nat} (ho : 2 ≤ o) : packetTime P o = BitVec.ofNat 64 (be P o 6) := by
  have hparts : be P (o - 2) 8 = be P (o - 2) 2 * 2 ^ 48 + be P o 6 := by
    have hwide := wideReadsAgreeWithNarrowReads P (o - 2) 2 6
    rwa [Nat.sub_add_cancel ho] at hwide
  have hlt : be P o 6 < 2 ^ 48 := be_lt P o 6
  refine BitVec.eq_of_toNat_eq ?_
  calc (packetTime P o).toNat
      = be P (o - 2) 8 &&& (2 ^ 48 - 1) := by
        rw [packetTime, BitVec.toNat_and, toNat_ofNat_be P (o - 2) (le_refl 8)]
        rfl
    _ = be P o 6 := by rw [Nat.and_two_pow_sub_one_eq_mod, hparts, Nat.mul_add_mod_self_right, Nat.mod_eq_of_lt hlt]
    _ = (BitVec.ofNat 64 (be P o 6)).toNat := (toNat_ofNat_be P o (by omega)).symm

end

/-! ## The constructor check -/

section

variable {s : State}

/-- R121: the two ways in which a buffer is no packet. -/
theorem State.not_packetOk_iff : ¬ s.packetOk ↔ s.len < 7 ∨ s.params.ibufCap < s.len := by
  rw [not_and_or, not_le, not_le]

/-- R121: the check is the first step of every PV.* command. -/
theorem exec_of_not_packetOk {i : Instr} (hi : i ∈ packetViewCommands) (h : ¬ s.packetOk) :
    exec i s = .next (s.fail .invalidArgument) := by
  cases i with
  | pvValidate | pvApid | pvSeq | pvLen | pvStype | pvSsub | pvDest | pvTime | pvPec | pvPayload => exact if_neg h
  | _ => exact absurd hi (by decide)

/-- R122: the bytes of the field lie past the end of the buffer. -/
theorem packetAccessor_of_len_lt {bound : Nat} (h : s.packetOk) (hshort : s.len < bound) (value : BitVec 64) :
    packetAccessor s bound value = .next (s.respond 0x0002#16 0#64 0#32) := by
  rw [← State.fail_outOfBounds]
  exact (if_pos h).trans (if_pos hshort)

/-- R122: the bytes of the field lie in the buffer. -/
theorem packetAccessor_of_le {bound : Nat} (h : s.packetOk) (hfit : bound ≤ s.len) (value : BitVec 64) :
    packetAccessor s bound value = .next (s.respond 0#16 value 0#32) :=
  (if_pos h).trans (if_neg hfit.not_gt)

/-- R122: an accessor returns the number of its field. -/
theorem packetAccessor_field {bound w n : Nat} (h : s.packetOk) (hfit : bound ≤ s.len) {field : BitVec w}
    (hfield : field.toNat = n) :
    packetAccessor s bound (field.setWidth 64) = .next (s.respond 0#16 (BitVec.ofNat 64 n) 0#32) := by
  rw [packetAccessor_of_le h hfit, ← hfield, BitVec.ofNat_toNat]

/-- R124: on a packet PV.VALIDATE reports the violated rules and both CRC values. -/
theorem execPvValidate_of_packetOk (h : s.packetOk) :
    execPvValidate s =
      .next (s.respond (validationStatus .malformedPacket (packetViolations s)) (s.computedCrc.setWidth 64)
        (s.readCrc.setWidth 32)) :=
  if_pos h

/-- R133: the declared packet has no room for a payload, or is not in the buffer whole. -/
theorem execPvPayload_of_pastTheEnd (h : s.packetOk) (hpast : s.plen < 18 ∨ s.len < s.plen) :
    execPvPayload s = .next (s.respond 0x0002#16 0#64 0#32) := by
  rw [← State.fail_outOfBounds]
  exact (if_pos h).trans (if_pos hpast)

/-- R133: the payload lies between the two headers and the trailer. -/
theorem execPvPayload_of_whole (h : s.packetOk) (h18 : 18 ≤ s.plen) (hfit : s.plen ≤ s.len) :
    execPvPayload s = .next (s.respond 0#16 16#64 (BitVec.ofNat 32 (s.plen - 18))) :=
  (if_pos h).trans (if_neg (by omega))

end

/-! ## Validation -/

/-- R13, R104, R124: `CAUSE` is the lowest set bit of the mask, and 0 where no bit is set. -/
theorem statusCause_validationStatus (cls : ErrClass) (m : BitVec 8) :
    statusCause (validationStatus cls m) = lowestSetBit m := by
  by_cases hm : m = 0#8
  · rw [validationStatus, if_pos hm, hm]
    decide
  · rw [validationStatus, if_neg hm, statusCause_statusWord]

/-- R123: the lowest set bit of a mask is the first violated rule. -/
theorem lowestSetBit_violationMask (b0 b1 b2 b3 b4 b5 : Bool) :
    lowestSetBit (violationMask b0 b1 b2 b3 b4 b5) =
      if b0 then 0#4 else if b1 then 1#4 else if b2 then 2#4 else if b3 then 3#4 else if b4 then 4#4
      else if b5 then 5#4 else 0#4 := by
  obtain ⟨h0, h1, h2, h3, h4, h5, h6, h7⟩ := violationMask_bits b0 b1 b2 b3 b4 b5
  rw [lowestSetBit, h0, h1, h2, h3, h4, h5, h6, h7]
  rfl

section

variable (s : State)

/-- R123: each bit of the mask is the test of its rule. -/
theorem packetViolations_bits :
    (packetViolations s).getLsbD 0 = decide (s.len < s.plen) ∧
    (packetViolations s).getLsbD 1 = (packetVersion (s.view .pkVersion) != 0#3) ∧
    (packetViolations s).getLsbD 2 = (packetType (s.view .pkType) != 0#1) ∧
    (packetViolations s).getLsbD 3 = (packetDfhFlag (s.view .pkDfh) != 1#1) ∧
    (packetViolations s).getLsbD 4 = (packetSegFlags (s.view .pkSeg) != 3#2) ∧
    (packetViolations s).getLsbD 5 = (decide (s.plen ≤ s.len) && s.computedCrc != s.readCrc) ∧
    (packetViolations s).getLsbD 6 = false ∧ (packetViolations s).getLsbD 7 = false :=
  violationMask_bits _ _ _ _ _ _

variable {s}

/-- R124: the CRC of the bytes before the trailer, where the buffer holds the declared packet. -/
theorem State.computedCrc_of_whole (hfit : s.plen ≤ s.len) :
    s.computedCrc = crc16 (run (s.view .pkCrcRun) 0 (s.plen - 2)) :=
  if_pos hfit

/-- R124: the trailer, where the buffer holds the declared packet. -/
theorem State.readCrc_of_whole (hfit : s.plen ≤ s.len) :
    s.readCrc = BitVec.ofNat 16 (packetPec (s.view .pkPec) s.plen) :=
  if_pos hfit

/-- R124: no CRC is evaluated where the buffer does not hold the declared packet. -/
theorem State.crcs_of_short (hshort : s.len < s.plen) : s.computedCrc = 0#16 ∧ s.readCrc = 0#16 :=
  ⟨if_neg hshort.not_ge, if_neg hshort.not_ge⟩

/-- R53, R69: on a loaded buffer the declared length is that of the bytes written. -/
theorem State.plen_of_loaded (hok : s.packetOk) (hloaded : s.loaded) : s.plen = packetLength s.bytes := by
  obtain ⟨h7, -⟩ := hok
  exact packetLength_congr _ _ (s.view_of_written _ 4 (hloaded 4 (by omega)))
    (s.view_of_written _ 5 (hloaded 5 (by omega)))

/-- R53, R124: on a loaded buffer that holds the declared packet, rule `PK_CRC` compares the written trailer with the CRC
of the written bytes before it. -/
theorem State.crc_eq_iff_of_loaded (hok : s.packetOk) (hloaded : s.loaded) (hfit : packetLength s.bytes ≤ s.len) :
    s.computedCrc = s.readCrc ↔
      (crc16 (run s.bytes 0 (packetLength s.bytes - 2))).toNat = be s.bytes (packetLength s.bytes - 2) 2 := by
  have hplen := State.plen_of_loaded hok hloaded
  have h7 := packetLength_ge s.bytes
  have hcomputed : s.computedCrc = crc16 (run s.bytes 0 (packetLength s.bytes - 2)) := by
    rw [State.computedCrc_of_whole (hplen ▸ hfit), hplen]
    exact congrArg crc16 (run_congr _ _ _ _ _ fun k hk => s.view_of_written _ _ (hloaded _ (by omega)))
  have hread : s.readCrc.toNat = be s.bytes (packetLength s.bytes - 2) 2 := by
    rw [State.readCrc_of_whole (hplen ▸ hfit), hplen, packetPec,
      State.be_view_of_loaded hloaded _ (by omega : packetLength s.bytes - 2 + 2 ≤ s.len), BitVec.toNat_ofNat]
    exact Nat.mod_eq_of_lt (be_lt s.bytes _ 2)
  rw [← BitVec.toNat_inj, hcomputed, hread]

/-- R53, R123: on a loaded buffer the six rules are tests of the bytes written, whichever read of a byte is meant. -/
theorem packetViolations_of_loaded (hok : s.packetOk) (hloaded : s.loaded) :
    packetViolations s = violationMask (decide (s.len < packetLength s.bytes)) (packetVersion s.bytes != 0#3)
      (packetType s.bytes != 0#1) (packetDfhFlag s.bytes != 1#1) (packetSegFlags s.bytes != 3#2)
      (decide (packetLength s.bytes ≤ s.len) && s.computedCrc != s.readCrc) := by
  have hread : ∀ (r : ReadSite), ∀ k < 7, s.view r k = s.bytes k := fun r k hk =>
    s.view_of_written r k (hloaded k (lt_of_lt_of_le hk hok.1))
  simp only [packetViolations, State.plen_of_loaded hok hloaded, packetVersion, packetType, packetDfhFlag,
    packetSegFlags, hread _ 0 (by omega), hread _ 2 (by omega)]

end

/-! ## The statements -/

/-- Settles O31: `STATUS` is 0 exactly when all six rules hold; the three flags of the first byte are one number. -/
theorem packetPassesExactlyWithFlagsAndCrc : Obligations.PacketPassesExactlyWithFlagsAndCrc := by
  intro s hok hloaded
  refine ⟨_, execPvValidate_of_packetOk hok, ?_⟩
  rw [State.respond_status, validationStatus_eq_zero_iff, packetViolations_of_loaded hok hloaded,
    violationMask_eq_zero, decide_eq_false_iff_not, not_lt]
  refine and_congr_right fun hfit => ?_
  rw [decide_eq_true hfit, Bool.true_and, ← packetFlags_iff, ← packetSegFlags_eq_three_iff,
    ← State.crc_eq_iff_of_loaded hok hloaded hfit]
  simp only [bne_eq_false_iff_eq, and_assoc]

/-- Settles O32: `CAUSE` is the lowest set bit of the mask, so the first violated rule; a whole packet does not violate
the first. -/
theorem headerFaultOutranksTheCrc : Obligations.HeaderFaultOutranksTheCrc := by
  intro s t hok hloaded hfit hexec
  obtain rfl : t = _ := Host.Outcome.next.inj (hexec.symm.trans (execPvValidate_of_packetOk hok))
  have hcrc := bne_iff_ne.trans (State.crc_eq_iff_of_loaded hok hloaded hfit).not
  rw [State.respond_status, statusCause_validationStatus, packetViolations_of_loaded hok hloaded,
    lowestSetBit_violationMask, decide_eq_false hfit.not_gt, decide_eq_true hfit, Bool.true_and]
  simp only [packetVersion_bne_zero_iff, packetType_bne_zero_iff, packetDfhFlag_bne_one_iff,
    packetSegFlags_bne_three_iff, hcrc, Bool.false_eq_true, if_false]

/-- Settles O24: the buffer fails the constructor check, each command's first step. -/
theorem packetCommandsNeedSevenBytes : Obligations.PacketCommandsNeedSevenBytes := by
  intro s i hi hbad
  rw [exec_of_not_packetOk hi (State.not_packetOk_iff.mpr hbad), State.fail_invalidArgument]
  rfl

/-- Settles O27: the failing buffer by O24; the mask leaves the six bytes of the field. -/
theorem onboardTimeIsItsSixBytes : Obligations.OnboardTimeIsItsSixBytes := by
  rintro s o P hparams rfl hP
  have ho : 6 ≤ s.params.dfhTimeOff := by
    simp only [Params.wellFormed, Bool.and_eq_true, decide_eq_true_eq] at hparams
    omega
  refine ⟨packetCommandsNeedSevenBytes s _ (by decide), fun h7 hcap hshort => ?_, fun hcap hfit => ?_⟩
  · exact packetAccessor_of_len_lt ⟨h7, hcap⟩ hshort _
  · have hok : s.packetOk := ⟨le_trans (by omega) hfit, hcap⟩
    simp only [hP]
    rw [exec, execPvTime, packetTime_eq_be (by omega), be_six]
    exact packetAccessor_of_le hok hfit _

/-- Settles O25: the failing buffer by O24; on a packet, the number of each field. -/
theorem packetHeaderAccessorsReturnTheirFields : Obligations.PacketHeaderAccessorsReturnTheirFields := by
  intro s P hP
  obtain rfl : P = fun k => (s.view .field k).toNat := funext hP
  refine ⟨fun hbad i hi => ?_, fun h7 hcap => ?_⟩
  · have hsub : ∀ j ∈ [Instr.pvApid, .pvSeq, .pvLen], j ∈ packetViewCommands := by decide
    exact packetCommandsNeedSevenBytes s i (hsub i hi) hbad
  · have hok : s.packetOk := ⟨h7, hcap⟩
    have hbound : ∀ bound ≤ 7, bound ≤ s.len := fun bound hle => hle.trans h7
    refine ⟨packetAccessor_field hok (hbound 2 (by omega)) (packetApid_toNat _),
      packetAccessor_field hok (hbound 4 (by omega)) (packetSeq_toNat _), ?_⟩
    rw [exec, execPvLen, packetLength_eq]
    exact packetAccessor_of_le hok (hbound 6 (by omega)) _

/-- Settles O26: the three accessors are one, at three offsets. -/
theorem dataFieldHeaderAccessorsReturnTheirBytes : Obligations.DataFieldHeaderAccessorsReturnTheirBytes := by
  intro s p hp
  have hcommand : p.2 ∈ packetViewCommands ∧
      exec p.2 s = packetAccessor s (p.1 + 1) ((s.view .field p.1).setWidth 64) := by
    simp only [List.mem_cons, List.not_mem_nil, or_false] at hp
    rcases hp with rfl | rfl | rfl <;> exact ⟨by simp [packetViewCommands], rfl⟩
  obtain ⟨hmem, hexec⟩ := hcommand
  refine ⟨packetCommandsNeedSevenBytes s _ hmem, fun h7 hcap hshort => ?_, fun h7 hcap hfit => ?_⟩
  · exact hexec.trans (packetAccessor_of_len_lt ⟨h7, hcap⟩ hshort _)
  · exact hexec.trans (packetAccessor_field ⟨h7, hcap⟩ hfit rfl)

/-- Settles O28: the declared packet is in the buffer whole, or not. -/
theorem pvPecReturnsTheTrailer : Obligations.PvPecReturnsTheTrailer := by
  intro s plen hplen
  obtain rfl : plen = s.plen := hplen.trans (packetLength_eq _).symm
  refine ⟨packetCommandsNeedSevenBytes s _ (by decide), fun h7 hcap => ⟨fun hshort => ?_, fun hfit => ?_⟩⟩
  · exact packetAccessor_of_len_lt ⟨h7, hcap⟩ hshort _
  · rw [← packetPec_eq (by omega)]
    exact packetAccessor_of_le ⟨h7, hcap⟩ hfit _

/-- Settles O29: the declared packet has room for a payload and is in the buffer whole, or not. -/
theorem pvPayloadGivesTheSlice : Obligations.PvPayloadGivesTheSlice := by
  intro s plen hplen
  obtain rfl : plen = s.plen := hplen.trans (packetLength_eq _).symm
  exact ⟨packetCommandsNeedSevenBytes s _ (by decide), fun h7 hcap =>
    ⟨execPvPayload_of_pastTheEnd ⟨h7, hcap⟩, execPvPayload_of_whole ⟨h7, hcap⟩⟩⟩

/-- Settles O30: the mask is `packetViolations`, each of its bits the rule read off the bytes of the field, and the cause
its lowest set bit. -/
theorem packetValidationReportsEveryViolatedRule : Obligations.PacketValidationReportsEveryViolatedRule := by
  intro s plen hplen
  have h7plen : 7 ≤ plen := by omega
  obtain rfl : plen = s.plen := hplen.trans (packetLength_eq _).symm
  refine ⟨packetCommandsNeedSevenBytes s _ (by decide), fun h7 hcap => ?_⟩
  obtain ⟨hlength, hversion, htype, hdfh, hseg, hcrc, hbit6, hbit7⟩ := packetViolations_bits s
  refine ⟨packetViolations s, lowestSetBit (packetViolations s), s.computedCrc, s.readCrc, fun hfit => ?_,
    State.crcs_of_short, ?_, ?_, ?_, ?_, ?_, ?_, hbit6, hbit7, lowestSetBit_spec _,
    execPvValidate_of_packetOk ⟨h7, hcap⟩⟩
  · exact ⟨State.computedCrc_of_whole hfit, (State.readCrc_of_whole hfit).trans (ofNat_packetPec (by omega))⟩
  · exact hlength.congr_left.trans decide_eq_true_iff
  · exact hversion.congr_left.trans (packetVersion_bne_zero_iff _)
  · exact htype.congr_left.trans (packetType_bne_zero_iff _)
  · exact hdfh.congr_left.trans (packetDfhFlag_bne_one_iff _)
  · exact hseg.congr_left.trans (packetSegFlags_bne_three_iff _)
  · rw [hcrc, Bool.and_eq_true, decide_eq_true_iff, bne_iff_ne]
    rfl

end Sys2Proof.Machine
end

section
/-! The CRC16 unit (spec/43_crc16.md R140 to R146): the table against its constants, one update as the moved syndrome with a
table entry, the bit-serial form of an update, and the answer of CRC.COMPUTE. -/

namespace Sys2Proof.Machine

/-! ## The table -/

/-- R141: the exclusive-or of the constants of the bits set in an index. -/
def crcEntry (i : Byte) : BitVec 16 :=
  (List.zip [0, 1, 2, 3, 4, 5, 6, 7]
    [0x1021#16, 0x2042#16, 0x4084#16, 0x8108#16, 0x1231#16, 0x2462#16, 0x48C4#16, 0x9188#16]).foldl
    (fun acc k => if i.getLsbD k.1 = true then acc ^^^ k.2 else acc) 0#16

/-- R141, R142: the literal table, compared entry by entry. -/
theorem crcTable_eq_entries : crcTable = (List.range 256).map fun n => crcEntry (BitVec.ofNat 8 n) := by
  decide +kernel

theorem crcTable_length : crcTable.length = 256 := by
  rw [crcTable_eq_entries, List.length_map, List.length_range]

/-- R142: a byte looks up its own entry in a table that lists the entries in rising order. -/
theorem crcTable_getD_of_eq {f : Byte → BitVec 16}
    (h : crcTable = (List.range 256).map fun n => f (BitVec.ofNat 8 n)) (i : Byte) :
    crcTable.getD i.toNat 0#16 = f i := by
  have hi : i.toNat < 256 := i.isLt
  simp [h, hi]

/-! ## One byte -/

/-- R143: an update moves the low byte of the syndrome up and indexes the table with the high byte. -/
theorem crcUpdate_eq (s : BitVec 16) (b : Byte) :
    crcUpdate s b = (s <<< 8) ^^^ crcTable.getD (s.extractLsb' 8 8 ^^^ b).toNat 0#16 := by
  have hmoved : (s <<< 8) &&& 0xFF00#16 = s <<< 8 := by
    rw [show 0xFF00#16 = BitVec.allOnes 16 <<< 8 from rfl, ← BitVec.shiftLeft_and_distrib, BitVec.and_allOnes]
  have hindex : ((s >>> 8) ^^^ b.setWidth 16) &&& 0x00FF#16 = (s.extractLsb' 8 8 ^^^ b).setWidth 16 := by
    have hmask : ∀ i (hi : i < 16), (0x00FF#16)[i] = decide (i < 8) := by decide
    ext i
    grind
  rw [crcUpdate, hmoved, hindex, BitVec.toNat_setWidth_of_le (by decide)]

/-- R143: the bytes are taken in rising order. -/
theorem crc16_append (front back : List Byte) : crc16 (front ++ back) = back.foldl crcUpdate (crc16 front) :=
  List.foldl_append

/-- R143: the high byte of the syndrome cancels itself, so only the move is left. -/
theorem crcUpdate_highByte (s : BitVec 16) : crcUpdate s (s.extractLsb' 8 8) = s <<< 8 := by
  have hzero : crcTable.getD 0 0#16 = 0#16 := rfl
  rw [crcUpdate_eq, BitVec.xor_self, BitVec.toNat_zero, hzero, BitVec.xor_zero]

/-- R146 (c): the two bytes of the syndrome, high byte first, clear it. -/
theorem crcUpdate_ownBytes (s : BitVec 16) : crcUpdate (crcUpdate s (s.extractLsb' 8 8)) (s.extractLsb' 0 8) = 0#16 := by
  have hlow : s.extractLsb' 0 8 = (s <<< 8).extractLsb' 8 8 := by ext i; grind
  rw [crcUpdate_highByte, hlow, crcUpdate_highByte]
  ext i; grind

/-! ## The bit-serial form -/

/-- R146 (b): one step of the division by x^16 + x^12 + x^5 + 1, most significant bit first. -/
def crcBitStep (x : BitVec 16) : BitVec 16 := if x.getLsbD 15 = true then (x <<< 1) ^^^ 0x1021#16 else x <<< 1

theorem crcBitStep_xor (x y : BitVec 16) : crcBitStep (x ^^^ y) = crcBitStep x ^^^ crcBitStep y := by
  simp only [crcBitStep, BitVec.getLsbD_xor, BitVec.shiftLeft_xor_distrib]
  cases x.getLsbD 15 <;> cases y.getLsbD 15 <;> grind

theorem crcBitStep_iterate_xor (n : Nat) (x y : BitVec 16) :
    crcBitStep^[n] (x ^^^ y) = crcBitStep^[n] x ^^^ crcBitStep^[n] y :=
  Function.Semiconj₂.iterate crcBitStep_xor n x y

/-- A byte in the low half meets no carry on its way up. -/
theorem crcBitStep_iterate_low (b : Byte) {n : Nat} (hn : n ≤ 8) :
    crcBitStep^[n] (b.setWidth 16) = b.setWidth 16 <<< n := by
  induction n with
  | zero => simp
  | succ n ih =>
    have htop : (b.setWidth 16 <<< n).getLsbD 15 = false := by grind
    rw [Function.iterate_succ_apply', ih (by omega), crcBitStep, htop, if_neg Bool.false_ne_true,
      BitVec.shiftLeft_add]

/-- R141, R146 (b): the entry of `i` is what eight steps make of `i` in the high half. -/
theorem crcTable_getD_eq_bitSerial (i : Byte) :
    crcTable.getD i.toNat 0#16 = crcBitStep^[8] (i.setWidth 16 <<< 8) :=
  crcTable_getD_of_eq (f := fun i => crcBitStep^[8] (i.setWidth 16 <<< 8)) (by decide +kernel) i

/-- R146 (b): the low byte only moves up, and the high byte is looked up with the new one. -/
theorem crcUpdate_eq_bitSerial (s : BitVec 16) (b : Byte) :
    crcUpdate s b = crcBitStep^[8] (s ^^^ (b.setWidth 16 <<< 8)) := by
  have hsplit : s ^^^ (b.setWidth 16 <<< 8) =
      (s.extractLsb' 0 8).setWidth 16 ^^^ ((s.extractLsb' 8 8 ^^^ b).setWidth 16 <<< 8) := by ext i; grind
  have hlow : (s.extractLsb' 0 8).setWidth 16 <<< 8 = s <<< 8 := by ext i; grind
  rw [hsplit, crcBitStep_iterate_xor, crcBitStep_iterate_low _ le_rfl, hlow,
    ← crcTable_getD_eq_bitSerial, crcUpdate_eq]

/-! ## CRC.COMPUTE -/

section

variable {s : State}

theorem execCrcCompute_of_over (h : s.params.ibufCap < s.len) :
    exec .crcCompute s = .next (s.respond 0x0001#16 0#64 0#32) := by
  rw [exec, execCrcCompute, if_pos h, State.fail_invalidArgument]

theorem execCrcCompute_of_le (h : s.len ≤ s.params.ibufCap) :
    exec .crcCompute s = .next (s.respond 0#16 ((crc16 (run (s.view .field) 0 s.len)).setWidth 64) 0#32) := by
  rw [exec, execCrcCompute, if_neg h.not_gt, State.succeed_eq_respond]

end

/-! ## The statements -/

/-- Settles O36: the update is eight steps of the bit-serial form, and the syndrome's own bytes clear it. -/
theorem crcLaws : Obligations.CrcLaws := by
  refine ⟨rfl, fun bytes b => ?_, fun bytes => ?_, by decide⟩
  · rw [crc16_append]
    exact crcUpdate_eq_bitSerial (crc16 bytes) b
  · rw [crc16_append]
    exact crcUpdate_ownBytes (crc16 bytes)

/-- Settles O33: the entries of the table in rising order are those of the constants. -/
theorem crcTableComesFromTheEightConstants : Obligations.CrcTableComesFromTheEightConstants :=
  ⟨crcTable_length, crcTable_getD_of_eq crcTable_eq_entries⟩

/-- Settles O34: each vector is run through the model. -/
theorem crcReferenceVectors : Obligations.CrcReferenceVectors := by
  unfold Obligations.CrcReferenceVectors
  decide

/-- Settles O35: the answer by the length of the buffer; no byte updates the initial syndrome of an empty one. -/
theorem crcComputeReturnsTheCrc : Obligations.CrcComputeReturnsTheCrc := by
  intro s
  refine ⟨execCrcCompute_of_over, fun hle => ?_, fun hempty => ?_⟩
  · rw [BitVec.ofNat_toNat]
    exact execCrcCompute_of_le hle
  · have hlen : s.len = 0 := s.len_eq_zero_iff.mpr hempty
    rw [execCrcCompute_of_le (hlen ▸ Nat.zero_le _), hlen]
    rfl

end Sys2Proof.Machine
end

section
/-! X.ADD and X.END as functions of the extractor's registers (spec/44_extractor.md R151 to R184): the cutting of a data
zone is unique, an X.ADD in progress is described by its events, its losses and its pending bytes, and each branch of
step 5 takes one such description to the next. -/

namespace Sys2Proof.Machine

/-! ## The pre-checks -/

section

variable {s : State}

/-- R153: a frame of another channel. -/
theorem execXAdd_of_wrongChannel (h : s.frameOk) (hvcid : frameVcid (s.view .addVcid) ≠ s.cfgVcid) :
    execXAdd s = .next (s.fail .wrongChannel) :=
  (if_pos h).trans (if_pos hvcid)

/-- R154: a frame whose headers or whose first packet lie past its end. -/
theorem execXAdd_of_outOfBounds (h : s.frameOk) (hvcid : frameVcid (s.view .addVcid) = s.cfgVcid)
    (hbounds : addOutOfBounds s.len (frameHdr (s.view .addOcf)) (frameFhp (s.view .addFhp))) :
    execXAdd s = .next (s.fail .outOfBounds) :=
  (if_pos h).trans ((if_neg (not_not.mpr hvcid)).trans (if_pos hbounds))

/-- R191, R196: class 5 in `ERR`. -/
theorem State.fail_wrongChannel (s : State) : s.fail .wrongChannel = s.respond 0x0005#16 0#64 0#32 := by
  have hword : statusWord 0#8 0#4 ErrClass.wrongChannel.code = 0x0005#16 := by decide
  rw [State.fail_eq_respond, hword]

/-- R75, R154: the data-zone checks on the pointer as a number; 0x7FE and 0x7FF are no ordinary pointers. -/
theorem addOutOfBounds_of_toNat {len hdr : Nat} {fhp : BitVec 11} (hidle : fhp.toNat ≠ 0x7FE)
    (h : len < hdr ∨ (fhp.toNat ≤ 0x7FD ∧ len - hdr < fhp.toNat)) : addOutOfBounds len hdr fhp := by
  refine ⟨fun hfhp => hidle (hfhp ▸ rfl), h.imp_right fun ⟨hordinary, hpast⟩ => ⟨fun hfhp => ?_, hpast⟩⟩
  rw [hfhp] at hordinary
  exact absurd hordinary (by decide)

end

/-! ## Step 6 -/

/-- R172: a turn that goes on consumes a packet, so the rest of the bytes needs fewer turns; two numbers of turns that both
cover the bytes give one result. -/
theorem addPackets_eq_of_rem_le (F : ReadSite → View) {fuel fuel' : Nat} {w : AddWork} (h : w.rem ≤ fuel)
    (h' : w.rem ≤ fuel') : addPackets F fuel w = addPackets F fuel' w := by
  induction fuel generalizing fuel' w with
  | zero => rw [addPackets_rem_zero F 0 w (by omega), addPackets_rem_zero F fuel' w (by omega)]
  | succ n ih =>
    cases fuel' with
    | zero => rw [addPackets_rem_zero F (n + 1) w (by omega), addPackets_rem_zero F 0 w (by omega)]
    | succ n' =>
      have hge := packetLength_ge (shiftView (F .addPeek) w.pos)
      have hnext : ∀ bytes : List Byte,
          ((w.emit bytes false).skip (packetLength (shiftView (F .addPeek) w.pos))).rem =
            w.rem - packetLength (shiftView (F .addPeek) w.pos) := fun _ => rfl
      simp only [addPackets]
      by_cases hnone : w.rem = 0
      · rw [if_pos hnone, if_pos hnone]
      · rw [ih (fuel' := n') (by rw [hnext]; omega) (by rw [hnext]; omega)]

/-- R166 to R171: the rules of step 6 exclude each other, so a data zone is cut in one way only. -/
theorem ZoneRun.unique {F : ReadSite → View} {p : Params} {pos rem : Nat} {events events' : List Event}
    {pending pending' : Option (List Byte)} (h : ZoneRun F p pos rem events pending)
    (h' : ZoneRun F p pos rem events' pending') : events' = events ∧ pending' = pending := by
  induction h generalizing events' pending' with
  | done pos =>
    cases h' with
    | done => exact ⟨rfl, rfl⟩
    | _ => omega
  | short pos rem h0 h7 =>
    cases h' with
    | short => exact ⟨rfl, rfl⟩
    | _ => omega
  | idle pos rem h7 hlen hcrc =>
    cases h' with
    | idle => exact ⟨rfl, rfl⟩
    | packet _ _ plen _ _ _ hlen' hidle' => exact absurd ⟨hlen'.symm.trans hlen, hcrc⟩ hidle'
    | _ => omega
  | packet pos rem plen events pending h7 hlen hidle hfit _ ih =>
    cases h' with
    | idle _ _ _ hlen' hcrc' => exact absurd ⟨hlen.symm.trans hlen', hcrc'⟩ hidle
    | packet _ _ plen' _ _ _ hlen' _ _ next' =>
      obtain rfl : plen' = plen := hlen'.symm.trans hlen
      obtain ⟨rfl, rfl⟩ := ih next'
      exact ⟨rfl, rfl⟩
    | _ => omega
  | tail pos rem h7 hlong =>
    cases h' with
    | tail => exact ⟨rfl, rfl⟩
    | _ => omega

/-- R170: step 6 emits from the data zone, never from the reassembly buffer. -/
theorem ZoneRun.not_isReconstructed {F : ReadSite → View} {p : Params} {pos rem : Nat} {events : List Event}
    {pending : Option (List Byte)} (h : ZoneRun F p pos rem events pending) :
    ∀ e ∈ events, e.isReconstructed = false := by
  induction h with
  | done | short | tail => simp
  | idle => simp
  | packet _ _ _ _ _ _ _ _ _ _ ih => exact List.forall_mem_cons.mpr ⟨rfl, ih⟩

/-! ## X.ADD in progress -/

/-- R155 to R171: X.ADD on the frame in `IBUF` once step 2 is done, by the events so far, the packets lost so far, the
bytes pending and the data cursor. What follows step 2 writes nothing else. -/
def State.adding (s : State) (events : List Event) (lost : Nat) (pending : Option (List Byte)) (pos rem : Nat) :
    AddWork where
  st := { s with
    framesProcessed := satAdd s.framesProcessed 1
    started := true
    framesMissing := satAdd s.framesMissing s.missed.toNat
    expected := frameVcfc (s.view .addCounter) + 1#8
    packetsExtracted := satAdd s.packetsExtracted (events.countP Event.isEmit)
    packetsLost := satAdd s.packetsLost lost
    rbPresent := pending.isSome
    rb := pending.getD [] }
  first := !s.started
  gap := s.missed != 0#8
  pos := pos
  rem := rem
  events := events

section

variable (s : State) (events : List Event) (lost : Nat) (pending : Option (List Byte)) (pos rem : Nat)

/-- R151: the end of X.ADD makes the work done its result. -/
theorem State.adding_commit :
    (s.adding events lost pending pos rem).st.commit (s.adding events lost pending pos rem).events =
      s.addResult events lost pending := rfl

theorem State.adding_diag (code : DiagCode) (arg0 arg1 : Nat) :
    (s.adding events lost pending pos rem).diag code arg0 arg1 =
      s.adding (events ++ [diagEvent s.params code arg0 arg1 []]) lost pending pos rem := by
  simp [State.adding, AddWork.diag]

theorem State.adding_emit (bytes : List Byte) (reconstructed : Bool) :
    (s.adding events lost pending pos rem).emit bytes reconstructed =
      s.adding (events ++ [emitEvent bytes reconstructed]) lost pending pos rem := by
  simp [State.adding, AddWork.emit, satAdd_satAdd]

theorem State.adding_clear :
    (s.adding events lost pending pos rem).clear = s.adding events lost none pos rem := rfl

theorem State.adding_lose :
    (s.adding events lost pending pos rem).lose = s.adding events (lost + 1) pending pos rem := by
  simp [State.adding, AddWork.lose, State.losePacket, satAdd_satAdd]

/-- R166 to R171: step 6 with nothing pending, on the events and the pending bytes of `ZoneRun`. -/
theorem State.addPackets_adding (F : ReadSite → View) :
    ∃ cut pending, ZoneRun F s.params pos rem cut pending ∧
      (addPackets F rem (s.adding events lost none pos rem)).st = (s.adding (events ++ cut) lost pending pos rem).st ∧
      (addPackets F rem (s.adding events lost none pos rem)).events = events ++ cut := by
  obtain ⟨cut, pending, hzone, hevents, hst⟩ :=
    addPackets_zoneRun F rem (s.adding events lost none pos rem) le_rfl
  refine ⟨cut, pending, hzone, ?_, hevents⟩
  rw [hst]
  simp [State.adding, satAdd_satAdd]

end

/-! ## The pending packet and the data zone at entry -/

/-- R155: the bytes still pending once step 2 is done. -/
def State.pendingRb (s : State) : Option (List Byte) := if s.stillPending then some s.rb else none

section

variable {s : State}

theorem State.pendingRb_of_pending (h : s.stillPending = true) : s.pendingRb = some s.rb := if_pos h

theorem State.pendingRb_of_not_pending (h : s.stillPending = false) : s.pendingRb = none :=
  if_neg (by simp [h])

/-- R155: a packet that is still pending does not follow a gap. -/
theorem State.missed_of_stillPending (h : s.stillPending = true) : s.missed = 0#8 := by
  simp only [State.stillPending, Bool.and_eq_true, beq_iff_eq] at h
  exact h.2

theorem State.gapEvents_of_missed (h : s.missed = 0#8) : s.gapEvents = [] := if_pos h

theorem State.gapLost_of_missed (h : s.missed = 0#8) : s.gapLost = 0 := if_neg fun hgap => hgap.1 h

/-- R155: step 2 of X.ADD, for a reassembly buffer as R21 says. -/
theorem State.addCount_addBegin (hrb : s.rbInv) (n : Nat) :
    addCount (frameVcfc (s.view .addCounter)) (addBegin s n) = s.adding s.gapEvents s.gapLost s.pendingRb 10 n := by
  obtain ⟨-, habsent, -⟩ := hrb
  have hnoPacket : s.gapEvents.countP Event.isEmit = 0 := by
    unfold State.gapEvents
    split <;> simp
  rw [addCount_eq s n habsent, State.adding, State.pendingRb, hnoPacket, satAdd_zero]
  cases s.stillPending <;> rfl

/-- R156: an idle frame ends after step 2. -/
theorem execXAdd_of_idle (hrb : s.rbInv) (haccepts : s.addAccepts) (hidle : s.fhp = fhpIdleData) :
    execXAdd s = .next (s.addResult s.gapEvents s.gapLost s.pendingRb) := by
  have hwork : addAccepted s (frameVcfc (s.view .addCounter)) s.fhp s.zoneLength =
      s.adding s.gapEvents s.gapLost s.pendingRb 10 s.zoneLength :=
    (if_pos hidle).trans (State.addCount_addBegin hrb _)
  rw [execXAdd_accepted s haccepts, hwork, State.adding_commit]

/-- R158, R166: a frame that is not idle goes from step 2 through step 5 to step 6. -/
theorem addAccepted_of_resolve (hrb : s.rbInv) (hidle : s.fhp ≠ fhpIdleData) {w : AddWork}
    (hresolve : addResolve s.view s.fhp (s.adding s.gapEvents s.gapLost s.pendingRb 10 s.zoneLength) = w) :
    addAccepted s (frameVcfc (s.view .addCounter)) s.fhp s.zoneLength = addPackets s.view w.rem w := by
  unfold addAccepted
  dsimp only
  rw [if_neg hidle, State.addCount_addBegin hrb, hresolve]

/-- R173: where step 5 leaves nothing pending, step 6 cuts the rest of the data zone. -/
theorem execXAdd_of_resolve (hrb : s.rbInv) (haccepts : s.addAccepts) (hidle : s.fhp ≠ fhpIdleData)
    {events : List Event} {lost pos rem : Nat}
    (hresolve : addResolve s.view s.fhp (s.adding s.gapEvents s.gapLost s.pendingRb 10 s.zoneLength) =
      s.adding events lost none pos rem) :
    ∃ cut pending, ZoneRun s.view s.params pos rem cut pending ∧
      execXAdd s = .next (s.addResult (events ++ cut) lost pending) := by
  obtain ⟨cut, pending, hzone, hst, hevents⟩ := s.addPackets_adding events lost pos rem s.view
  refine ⟨cut, pending, hzone, ?_⟩
  rw [execXAdd_accepted s haccepts, addAccepted_of_resolve hrb hidle hresolve]
  change Host.Outcome.next ((addPackets s.view rem _).st.commit (addPackets s.view rem _).events) = _
  rw [hst, hevents]
  rfl

end

/-! ## Step 5 -/

section

variable (s : State) (F : ReadSite → View) (events : List Event) (lost pos rem : Nat) {fhp : BitVec 11}

/-- R158: a start at offset 0 with nothing pending is no case of step 5. -/
theorem State.addResolve_adding_start :
    addResolve F 0#11 (s.adding events lost none pos rem) = s.adding events lost none pos rem := by
  simp [addResolve, State.adding]

/-- R159: a start at offset 0 with a packet pending, in a frame that follows no gap. -/
theorem State.addResolve_adding_startWithPending (hmissed : s.missed = 0#8) (bytes : List Byte) :
    addResolve F 0#11 (s.adding events lost (some bytes) pos rem) =
      s.adding (events ++ [diagEvent s.params .protoStartWithPending bytes.length 0 []]) (lost + 1) none pos rem := by
  have hgap : (s.adding events lost (some bytes) pos rem).gap = false := by simp [State.adding, hmissed]
  have hlen : (s.adding events lost (some bytes) pos rem).st.rbLen = bytes.length := rfl
  have hstep : addResolve F 0#11 (s.adding events lost (some bytes) pos rem) =
      addStartWithPending (s.adding events lost (some bytes) pos rem) := if_pos ⟨rfl, rfl⟩
  simp only [hstep, addStartWithPending, hgap, hlen, Bool.false_eq_true, if_false, State.adding_diag,
    State.adding_clear, State.adding_lose]

/-- R160: continuation bytes with nothing to continue: after a gap nothing is reported, on the first frame no loss is
counted. -/
theorem State.addResolve_adding_nothingPending (hfhp : fhp ≠ 0#11) :
    addResolve F fhp (s.adding events lost none pos rem) =
      (if s.missed ≠ 0#8 then s.adding events lost none pos rem
        else if s.started then
          s.adding (events ++ [diagEvent s.params .protoContWithoutPending fhp.toNat 0 []]) (lost + 1) none pos rem
        else s.adding (events ++ [diagEvent s.params .firstFrameContinuation fhp.toNat 0 []]) lost none pos rem).skip
          (if fhp = fhpNoPacketStart then rem else fhp.toNat) := by
  have hstep : addResolve F fhp (s.adding events lost none pos rem) =
      addContWithoutPending fhp (s.adding events lost none pos rem) :=
    (if_neg fun h => hfhp h.1).trans (if_pos ⟨hfhp, rfl⟩)
  have hgap : (s.adding events lost none pos rem).gap = (s.missed != 0#8) := rfl
  have hfirst : (s.adding events lost none pos rem).first = !s.started := rfl
  rw [hstep, addContWithoutPending, hgap, hfirst, State.adding_diag, State.adding_diag, State.adding_lose]
  by_cases hmissed : s.missed = 0#8
  · cases s.started <;> simp [hmissed, State.adding]
  · simp [hmissed, State.adding]

/-- R161: continuation bytes of a pending packet are appended, and then the completion test decides. -/
theorem State.addResolve_adding_continue (hfhp : fhp ≠ 0#11) (bytes : List Byte) :
    addResolve F fhp (s.adding events lost (some bytes) pos rem) =
      let n := if fhp = fhpNoPacketStart then rem else fhp.toNat
      addComplete fhp (s.adding events lost (some (bytes ++ run (F .addAppend) pos n)) (pos + n) (rem - n)) :=
  (if_neg fun h => hfhp h.1).trans ((if_neg fun h => Bool.noConfusion h.2).trans (if_pos rfl))

variable {bytes : List Byte}

/-- R163: the joined buffer holds its packet. -/
theorem State.addComplete_adding_complete
    (h : 7 ≤ bytes.length ∧ packetLength (listView bytes) ≤ bytes.length) :
    addComplete fhp (s.adding events lost (some bytes) pos rem) =
      s.adding (events ++ [emitEvent (bytes.take (packetLength (listView bytes))) true]) lost none pos rem := by
  rw [addComplete_complete fhp (s.adding events lost (some bytes) pos rem) h, State.adding_emit, State.adding_clear]
  rfl

/-- R165: the joined buffer falls short of its packet, in a frame in which no packet starts. -/
theorem State.addComplete_adding_kept
    (h : ¬ (7 ≤ bytes.length ∧ packetLength (listView bytes) ≤ bytes.length)) :
    addComplete fhpNoPacketStart (s.adding events lost (some bytes) pos rem) =
      s.adding events lost (some bytes) pos rem :=
  addComplete_kept _ h

/-- R165: the joined buffer falls short of its packet, in a frame in which the packet should have ended. -/
theorem State.addComplete_adding_lost
    (h : ¬ (7 ≤ bytes.length ∧ packetLength (listView bytes) ≤ bytes.length)) (hnone : fhp ≠ fhpNoPacketStart) :
    addComplete fhp (s.adding events lost (some bytes) pos rem) =
      s.adding (events ++ [diagEvent s.params .packetIncomplete bytes.length
        (if 7 ≤ bytes.length then packetLength (listView bytes) - bytes.length else 0xFFFFFFFF) []])
        (lost + 1) none pos rem := by
  rw [addComplete_lost fhp (s.adding events lost (some bytes) pos rem) h hnone, State.adding_diag,
    State.adding_clear, State.adding_lose]
  rfl

end

section

variable {s : State}

/-- R162: the completion test on the joined buffer. -/
theorem State.joinedComplete_iff :
    s.joinedComplete = true ↔ 7 ≤ s.joinedRb.length ∧ packetLength (listView s.joinedRb) ≤ s.joinedRb.length := by
  rw [State.joinedComplete, Bool.and_eq_true, decide_eq_true_iff, decide_eq_true_iff]

/-- R161: with a packet pending, step 5 is the completion test on the joined buffer. -/
theorem State.addResolve_of_stillPending (hfhp : s.fhp ≠ 0#11) (hpending : s.stillPending = true) :
    addResolve s.view s.fhp (s.adding s.gapEvents s.gapLost s.pendingRb 10 s.zoneLength) =
      addComplete s.fhp (s.adding [] 0 (some s.joinedRb) (10 + s.continuation) (s.zoneLength - s.continuation)) := by
  have hmissed := State.missed_of_stillPending hpending
  rw [State.gapEvents_of_missed hmissed, State.gapLost_of_missed hmissed, State.pendingRb_of_pending hpending,
    State.addResolve_adding_continue s s.view [] 0 10 s.zoneLength hfhp]
  rfl

end

/-! ## X.END -/

/-- A byte that is not 0 is read from an operand exactly where the list has it. -/
theorem listView_eq_iff {l : List Byte} {j : Nat} {b : Byte} (hb : b ≠ 0#8) : listView l j = b ↔ l[j]? = some b := by
  rw [listView, List.getD_eq_getElem?_getD]
  cases l[j]? with
  | none => simp [Ne.symm hb]
  | some c => simp

/-- R178: the benign byte patterns, said of the list. -/
theorem rbBenign_iff (rb : List Byte) :
    rbBenign rb = true ↔
      (∀ b ∈ rb, b = 0#8) ∨ (rb[0]? = some 0x07#8 ∧ (rb.length < 2 ∨ rb[1]? = some 0xFF#8)) := by
  rw [← listView_eq_iff (by decide), ← listView_eq_iff (by decide)]
  simp [rbBenign]

section

variable {s t : State}

/-- R14, R151: a command without an event ends in its response alone. -/
theorem State.commit_nil (s : State) : s.commit [] = s.respond 0#16 0#64 0#32 := by
  rw [State.commit, List.append_nil]
  rfl

theorem execXEnd_of_absent (h : s.rbPresent = false) : execXEnd s = .next (s.respond 0#16 0#64 0#32) := by
  rw [← State.commit_nil]
  exact if_pos h

theorem execXEnd_of_benign (h : s.rbPresent = true) (hbenign : rbBenign s.rb = true) :
    execXEnd s = .next (s.clearRb.respond 0#16 0#64 0#32) := by
  rw [← State.commit_nil]
  exact (if_neg (ne_false_of_eq_true h)).trans (if_pos hbenign)

theorem execXEnd_of_loss (h : s.rbPresent = true) (hbenign : rbBenign s.rb = false) :
    execXEnd s = .next (s.clearRb.losePacket.commit
      [diagEvent s.params .endIncomplete s.rbLen 0 (s.rb.take (min s.rbLen s.params.previewBytes))]) :=
  (if_neg (ne_false_of_eq_true h)).trans (if_neg (ne_true_of_eq_false hbenign))

/-- R178: X.END writes a state whose buffer is clear, and ends it with its events. -/
theorem execXEnd_cases (s : State) :
    ∃ (u : State) (events : List Event), execXEnd s = .next (u.commit events) ∧ u.rbPresent = false ∧ u.out = s.out ∧
      ∀ e ∈ events, e.isEmit = false := by
  cases hpresent : s.rbPresent with
  | false => exact ⟨s, [], s.commit_nil ▸ execXEnd_of_absent hpresent, hpresent, rfl, by simp⟩
  | true =>
    cases hbenign : rbBenign s.rb with
    | true => exact ⟨s.clearRb, [], s.clearRb.commit_nil ▸ execXEnd_of_benign hpresent hbenign, rfl, rfl, by simp⟩
    | false => exact ⟨_, [_], execXEnd_of_loss hpresent hbenign, rfl, rfl, by simp⟩

end

/-- R151: a list of events is packets and diagnostics. -/
theorem countP_isDiag (events : List Event) :
    events.countP Event.isDiag = events.length - events.countP Event.isEmit := by
  have hsplit : events.length = events.countP Event.isEmit + events.countP Event.isDiag := by
    rw [List.length_eq_countP_add_countP Event.isEmit]
    congr 1
    refine List.countP_congr fun e _ => ?_
    simp [Event.isDiag_eq]
  omega

/-! ## The statements -/

/-- Settles O37: the checks in their order, the fields of the frame read as numbers. -/
theorem xAddRejectsWithoutEffect : Obligations.XAddRejectsWithoutEffect := by
  intro s hdr fhp hhdr hfhp
  rw [← frameHdr_eq] at hhdr
  rw [← frameFhp_toNat] at hfhp
  rw [← frameVcid_toNat]
  subst hhdr hfhp
  refine ⟨fun hbad => ?_, fun h7 hmax hcap hvcid => ?_, fun h7 hmax hcap hvcid hidle hbounds => ?_⟩
  · exact frameCommandsNeedAFrame s _ (by decide) hbad
  · rw [exec, execXAdd_of_wrongChannel ⟨h7, hmax, hcap⟩ (BitVec.toNat_ne_iff_ne.mp hvcid), State.fail_wrongChannel]
    rfl
  · rw [exec, execXAdd_of_outOfBounds ⟨h7, hmax, hcap⟩ (BitVec.toNat_inj.mp hvcid)
      (addOutOfBounds_of_toNat hidle hbounds), State.fail_outOfBounds]
    rfl

/-- Settles O43: both numbers of turns cover the remaining bytes. -/
theorem loopOfStepSixEnds : Obligations.LoopOfStepSixEnds :=
  fun F _ _ h => addPackets_eq_of_rem_le F h le_rfl

/-- Settles O38: the frame ends after step 2. -/
theorem idleFrameIsTransparent : Obligations.IdleFrameIsTransparent :=
  fun _ hrb haccepts hidle => execXAdd_of_idle hrb haccepts hidle

/-- Settles O39: step 5 does nothing, and step 6 cuts the data zone as `ZoneRun` does, which it does in one way. -/
theorem frameStartingAtZeroIsCutIntoPackets : Obligations.FrameStartingAtZeroIsCutIntoPackets := by
  intro s hrb haccepts hfhp hpending
  have hresolve : addResolve s.view s.fhp (s.adding s.gapEvents s.gapLost s.pendingRb 10 s.zoneLength) =
      s.adding s.gapEvents s.gapLost none 10 s.zoneLength := by
    rw [hfhp, State.pendingRb_of_not_pending hpending, State.addResolve_adding_start]
  obtain ⟨cut, pending, hzone, hexec⟩ := execXAdd_of_resolve hrb haccepts (by rw [hfhp]; decide) hresolve
  exact ⟨cut, pending, hzone, fun _ _ => hzone.unique, hexec⟩

/-- Settles O40: step 5a, then step 6. -/
theorem startAtZeroLosesThePendingPacket : Obligations.StartAtZeroLosesThePendingPacket := by
  intro s hrb haccepts hfhp hpending
  have hmissed := State.missed_of_stillPending hpending
  have hresolve : addResolve s.view s.fhp (s.adding s.gapEvents s.gapLost s.pendingRb 10 s.zoneLength) =
      s.adding [diagEvent s.params .protoStartWithPending s.rb.length 0 []] 1 none 10 s.zoneLength := by
    rw [hfhp, State.gapEvents_of_missed hmissed, State.gapLost_of_missed hmissed,
      State.pendingRb_of_pending hpending, State.addResolve_adding_startWithPending s s.view _ _ _ _ hmissed]
    rfl
  exact execXAdd_of_resolve hrb haccepts (by rw [hfhp]; decide) hresolve

/-- Settles O41: step 5b in its three cases, then step 6 behind the skipped bytes. -/
theorem continuationWithNothingPendingIsSkipped : Obligations.ContinuationWithNothingPendingIsSkipped := by
  intro s hrb haccepts hfhp hidle hpending
  refine execXAdd_of_resolve hrb haccepts hidle ?_
  rw [State.pendingRb_of_not_pending hpending, State.addResolve_adding_nothingPending s s.view _ _ _ _ hfhp]
  by_cases hmissed : s.missed = 0#8
  · rw [State.gapEvents_of_missed hmissed, State.gapLost_of_missed hmissed]
    cases s.started <;> simp only [hmissed, ne_eq, not_true_eq_false, Bool.false_eq_true, if_false, if_true] <;> rfl
  · simp only [ne_eq, hmissed, not_false_eq_true, if_true]
    rfl

/-- Settles O42: step 5c in its three cases; what is kept leaves step 6 no byte. -/
theorem pendingPacketIsContinued : Obligations.PendingPacketIsContinued := by
  intro s hrb haccepts hfhp hidle hpending
  have hresolve := State.addResolve_of_stillPending hfhp hpending
  refine ⟨fun hcomplete => ?_, fun hshort hnone => ?_, fun hshort hnone => ?_⟩
  · rw [s.addComplete_adding_complete _ _ _ _ (State.joinedComplete_iff.mp hcomplete)] at hresolve
    exact execXAdd_of_resolve hrb haccepts hidle hresolve
  · have hincomplete := mt State.joinedComplete_iff.mpr (ne_true_of_eq_false hshort)
    have hrem : s.zoneLength - s.continuation = 0 := by
      rw [State.continuation, if_pos hnone, Nat.sub_self]
    rw [hrem, hnone, s.addComplete_adding_kept _ _ _ _ hincomplete, ← hnone] at hresolve
    show execXAdd s = _
    rw [execXAdd_accepted s haccepts, addAccepted_of_resolve hrb hidle hresolve, addPackets_rem_zero _ _ _ rfl,
      State.adding_commit]
  · have hincomplete := mt State.joinedComplete_iff.mpr (ne_true_of_eq_false hshort)
    rw [s.addComplete_adding_lost _ _ _ _ hincomplete hnone] at hresolve
    exact execXAdd_of_resolve hrb haccepts hidle hresolve

/-- Settles O44: both commands end in `commit`, but for a rejected frame, which ends in an error. -/
theorem extractorAnswersWithEventCounts : Obligations.ExtractorAnswersWithEventCounts := by
  intro s i hi
  rcases List.mem_pair.mp hi with rfl | rfl
  · by_cases haccepts : s.addAccepts
    · refine ⟨_, _, execXAdd_accepted s haccepts, ?_, fun _ => ⟨rfl, rfl, ?_⟩, fun _ hnot => absurd haccepts hnot⟩
      · rw [State.commit_out, (addAccepted_growsTo s _ _ _).out_eq]
      · rw [State.commit_res1, countP_isDiag]
    · obtain ⟨cls, -, -, hfail⟩ := execXAdd_rejected s haccepts
      exact ⟨_, [], hfail, (List.append_nil _).symm, fun h => absurd h (by simp [haccepts]),
        fun _ _ => ⟨rfl, s.fail_status_ne_zero cls⟩⟩
  · obtain ⟨u, events, hexec, -, hout, -⟩ := execXEnd_cases s
    refine ⟨_, events, hexec, ?_, fun _ => ⟨rfl, rfl, ?_⟩, fun h => Instr.noConfusion h⟩
    · rw [State.commit_out, hout]
    · rw [State.commit_res1, countP_isDiag]

/-- Settles O45: X.END in its three cases; a second one finds nothing pending. -/
theorem xEndJudgesThePendingBuffer : Obligations.XEndJudgesThePendingBuffer := by
  intro s benign hbenign
  rw [← rbBenign_iff] at hbenign
  refine ⟨execXEnd_of_absent, fun hpresent h => execXEnd_of_benign hpresent (hbenign.mp h), fun hpresent h => ?_,
    fun t u hfirst hsecond => ?_⟩
  · exact execXEnd_of_loss hpresent (Bool.eq_false_iff.mpr (mt hbenign.mpr h))
  · obtain ⟨v, events, hexec, habsent, -, hnoPacket⟩ := execXEnd_cases s
    obtain rfl : t = v.commit events := Host.Outcome.next.inj (hfirst.symm.trans hexec)
    have hres0 : (v.commit events).res0 = 0#64 := by
      rw [State.commit_res0, List.countP_eq_zero.mpr fun e he => ne_true_of_eq_false (hnoPacket e he)]
    obtain rfl : u = (v.commit events).respond 0#16 0#64 0#32 :=
      Host.Outcome.next.inj (hsecond.symm.trans (execXEnd_of_absent habsent))
    rw [← hres0]
    rfl

/-- Settles O46: a counter of 32 bits and `RES0` hold the same number. -/
theorem counterReadsReturnTheCounters : Obligations.CounterReadsReturnTheCounters := by
  intro s
  simp only [BitVec.ofNat_toNat]
  exact ⟨rfl, rfl, rfl, rfl⟩

end Sys2Proof.Machine
end

section
/-! The order of the packets among the events of one command (spec/44_extractor.md R176): step 2 emits none, step 5 one at
most, and step 6 none that is reconstructed. -/

namespace Sys2Proof.Machine

/-- R176: no packet stands before a reconstructed one. -/
def ReconstructedFirst (events : List Event) : Prop :=
  events.Pairwise fun a b => b.isReconstructed = true → a.isEmit = false

/-- R9, R176: what is reconstructed is a packet. -/
theorem Event.isEmit_of_isReconstructed {e : Event} (h : e.isReconstructed = true) : e.isEmit = true := by
  cases e with
  | emit => rfl
  | diag => exact absurd h Bool.false_ne_true

/-- R176: events without a packet are in order. -/
theorem ReconstructedFirst.of_no_packet {events : List Event} (h : ∀ e ∈ events, e.isEmit = false) :
    ReconstructedFirst events :=
  List.pairwise_of_forall_mem_list fun a ha _ _ _ => h a ha

/-- R176: so are events without a reconstructed packet, behind any others that are in order. -/
theorem ReconstructedFirst.append {events last : List Event} (h : ReconstructedFirst events)
    (hlast : ∀ e ∈ last, e.isReconstructed = false) : ReconstructedFirst (events ++ last) :=
  List.pairwise_append.mpr ⟨h, List.pairwise_of_forall_mem_list fun _ _ b hb hrec => absurd hrec (by simp [hlast b hb]),
    fun _ _ b hb hrec => absurd hrec (by simp [hlast b hb])⟩

/-- R176: and so is one event of any kind, behind events without a packet. -/
theorem ReconstructedFirst.of_no_packet_append {first new : List Event} (hfirst : ∀ e ∈ first, e.isEmit = false)
    (hnew : new.length ≤ 1) : ReconstructedFirst (first ++ new) := by
  have hsingle : ReconstructedFirst new := by
    match new, hnew with
    | [], _ => exact .nil
    | [e], _ => exact List.pairwise_singleton _ _
  exact List.pairwise_append.mpr ⟨ReconstructedFirst.of_no_packet hfirst, hsingle, fun a ha _ _ _ => hfirst a ha⟩

/-- R155: step 2 reports a gap at most, and emits no packet. -/
theorem addCount_events (ctr : BitVec 8) (w : AddWork) :
    ∃ new, (addCount ctr w).events = w.events ++ new ∧ ∀ e ∈ new, e.isEmit = false := by
  cases hstarted : w.st.started with
  | false =>
    rw [addCount_of_not_started hstarted]
    exact ⟨[], (List.append_nil _).symm, by simp⟩
  | true =>
    rw [addCount_of_started hstarted]
    change ∃ new, (addContinuity ctr w.countLater).events = w.countLater.events ++ new ∧ _
    rcases addContinuity_cases ctr w.countLater with h | ⟨_, _, -, -, -, hevents⟩
    · rw [h]
      exact ⟨[], (List.append_nil _).symm, by simp⟩
    · exact ⟨_, hevents, by simp⟩

/-- R162 to R165: the completion test produces one event at most. -/
theorem addComplete_events (fhp : BitVec 11) (w : AddWork) :
    ∃ new, (addComplete fhp w).events = w.events ++ new ∧ new.length ≤ 1 := by
  by_cases hcomplete : 7 ≤ w.st.rbLen ∧ packetLength (listView w.st.rb) ≤ w.st.rbLen
  · rw [addComplete_complete fhp w hcomplete]
    exact ⟨[_], rfl, le_rfl⟩
  · by_cases hnone : fhp = fhpNoPacketStart
    · rw [hnone, addComplete_kept w hcomplete]
      exact ⟨[], (List.append_nil _).symm, Nat.zero_le _⟩
    · rw [addComplete_lost fhp w hcomplete hnone]
      exact ⟨[_], rfl, le_rfl⟩

/-- R158: step 5 takes at most one branch, and each produces one event at most. -/
theorem addResolve_events (F : ReadSite → View) (fhp : BitVec 11) (w : AddWork) :
    ∃ new, (addResolve F fhp w).events = w.events ++ new ∧ new.length ≤ 1 := by
  unfold addResolve
  split
  · unfold addStartWithPending
    cases w.gap
    · exact ⟨[_], rfl, le_rfl⟩
    · exact ⟨[], (List.append_nil _).symm, Nat.zero_le _⟩
  · split
    · unfold addContWithoutPending
      cases w.gap
      · cases w.first
        · exact ⟨[_], rfl, le_rfl⟩
        · exact ⟨[_], rfl, le_rfl⟩
      · exact ⟨[], (List.append_nil _).symm, Nat.zero_le _⟩
    · split
      · rw [addContinue_eq_addComplete_join]
        exact addComplete_events fhp _
      · exact ⟨[], (List.append_nil _).symm, Nat.zero_le _⟩

/-- R173, R176: the events of an accepted X.ADD, step by step. -/
theorem addAccepted_reconstructedFirst (s : State) (ctr : BitVec 8) (fhp : BitVec 11) (n : Nat) :
    ReconstructedFirst (addAccepted s ctr fhp n).events := by
  obtain ⟨counted, hcount, hnoPacket⟩ := addCount_events ctr (addBegin s n)
  change (addCount ctr (addBegin s n)).events = counted at hcount
  unfold addAccepted
  dsimp only
  split
  · rw [hcount]
    exact .of_no_packet hnoPacket
  · obtain ⟨resolved, hresolve, hone⟩ := addResolve_events s.view fhp (addCount ctr (addBegin s n))
    obtain ⟨cut, pending, hzone, hevents, -⟩ :=
      addPackets_zoneRun s.view _ (addResolve s.view fhp (addCount ctr (addBegin s n))) le_rfl
    rw [hevents, hresolve, hcount]
    exact (ReconstructedFirst.of_no_packet_append hnoPacket hone).append hzone.not_isReconstructed

/-- R176: what any command appends to `OUT` is in order. -/
theorem exec_reconstructedFirst {i : Instr} {s t : State} (h : exec i s = .next t) :
    ∃ events, t.out = s.out ++ events ∧ ReconstructedFirst events := by
  by_cases hAdd : i = .xAdd
  · subst hAdd
    by_cases haccepts : s.addAccepts
    · obtain rfl := Host.Outcome.next.inj (h.symm.trans (execXAdd_accepted s haccepts))
      exact ⟨_, by rw [State.commit_out, (addAccepted_growsTo s _ _ _).out_eq], addAccepted_reconstructedFirst s _ _ _⟩
    · obtain ⟨cls, -, -, hfail⟩ := execXAdd_rejected s haccepts
      obtain rfl := Host.Outcome.next.inj (h.symm.trans hfail)
      exact ⟨[], (List.append_nil _).symm, .nil⟩
  · by_cases hEnd : i = .xEnd
    · subst hEnd
      obtain ⟨u, events, hexec, -, hout, hnoPacket⟩ := execXEnd_cases s
      obtain rfl := Host.Outcome.next.inj (h.symm.trans hexec)
      exact ⟨events, by rw [State.commit_out, hout], .of_no_packet hnoPacket⟩
    · obtain ⟨-, hunit⟩ := unitsKeepToTheirOwnState i s t h
      exact ⟨[], by rw [(hunit hAdd hEnd).2, List.append_nil], .nil⟩

/-- Settles O49: in order, so what stands before a reconstructed packet is no packet; and it is one itself, so what
stands after it is not reconstructed. -/
theorem reconstructedPacketComesFirst : Obligations.ReconstructedPacketComesFirst := by
  intro i s t before after e h hout hrec
  obtain ⟨events, happend, horder⟩ := exec_reconstructedFirst h
  obtain rfl : events = before ++ e :: after := by
    rw [happend, List.append_assoc] at hout
    exact List.append_cancel_left hout
  obtain ⟨-, hfrom, hbefore⟩ := List.pairwise_append.mp horder
  obtain ⟨hafter, -⟩ := List.pairwise_cons.mp hfrom
  refine ⟨fun x hx => hbefore x hx e List.mem_cons_self hrec, fun x hx => ?_⟩
  rw [Bool.eq_false_iff]
  intro hxrec
  simpa [Event.isEmit_of_isReconstructed hrec] using hafter x hx hxrec

end Sys2Proof.Machine
end

section
/-! What a command depends on (spec/44_extractor.md R185, spec/10_state.md R31, spec/20_memory.md R48): its registers, the
parameters and the loaded bytes. Each command reads below `ILEN` only, and X.ADD carries everything but the extractor's
registers along. -/

namespace Sys2Proof.Machine

/-! ## Two states with the same loaded bytes -/

/-- R185: the two states agree in what a command may look at. -/
structure SameLoaded (s s' : State) : Prop where
  params : s'.params = s.params
  ilen : s'.ilen = s.ilen
  extractor : sameExtractor s s'
  reader : sameReader s s'
  view : ∀ r : ReadSite, ∀ o < s.len, s'.view r o = s.view r o

/-- R185: both results go on with the same response, the same reader and extractor, and the same new events. -/
def SameEffect (s s' : State) (r r' : Result) : Prop :=
  ∃ t t' events, r = .next t ∧ r' = .next t' ∧ t'.status = t.status ∧ t'.res0 = t.res0 ∧ t'.res1 = t.res1 ∧
    sameExtractor t t' ∧ sameReader t t' ∧ t.out = s.out ++ events ∧ t'.out = s'.out ++ events

/-- A test that both states decide alike. -/
theorem SameEffect.ite {s s' : State} {p p' : Prop} [Decidable p] [Decidable p'] {a a' b b' : Result} (hp : p' ↔ p)
    (ha : p → SameEffect s s' a a') (hb : ¬ p → SameEffect s s' b b') :
    SameEffect s s' (if p then a else b) (if p' then a' else b') := by
  by_cases h : p
  · rw [if_pos h, if_pos (hp.mpr h)]
    exact ha h
  · rw [if_neg h, if_neg (mt hp.mp h)]
    exact hb h

namespace SameLoaded

variable {s s' : State}

/-- R53: written bytes read alike under any draw. -/
theorem of_loaded (hparams : s'.params = s.params) (hilen : s'.ilen = s.ilen) (hextractor : sameExtractor s s')
    (hreader : sameReader s s') (hloaded : s.loaded)
    (hbytes : ∀ o < s.len, Memory.lookup s'.ibuf o = Memory.lookup s.ibuf o) : SameLoaded s s' := by
  refine ⟨hparams, hilen, hextractor, hreader, fun r o ho => ?_⟩
  obtain ⟨b, hb⟩ := Option.isSome_iff_exists.mp (hloaded o ho)
  rw [State.view_of_lookup_some hb, State.view_of_lookup_some ((hbytes o ho).trans hb)]

section

variable (h : SameLoaded s s')
include h

theorem len : s'.len = s.len := congrArg BitVec.toNat h.ilen

theorem frameOk_iff : s'.frameOk ↔ s.frameOk := by
  rw [State.frameOk, State.frameOk, h.len, h.params]

theorem packetOk_iff : s'.packetOk ↔ s.packetOk := by
  rw [State.packetOk, State.packetOk, h.len, h.params]

/-! ## Reads below `ILEN` -/

theorem be_eq (r : ReadSite) {i n : Nat} (hrange : i + n ≤ s.len) : be (s'.view r) i n = be (s.view r) i n :=
  be_congr _ _ _ _ _ fun k hk => h.view r (i + k) (by omega)

theorem run_eq (r : ReadSite) {i n : Nat} (hrange : i + n ≤ s.len) : run (s'.view r) i n = run (s.view r) i n :=
  run_congr _ _ _ _ _ fun k hk => h.view r (i + k) (by omega)

/-- R101, R121: the constructor checks leave the first seven bytes in range. -/
theorem header (h7 : 7 ≤ s.len) (r : ReadSite) : ∀ k < 7, s'.view r k = s.view r k :=
  fun k hk => h.view r k (by omega)

theorem frameViolations_eq (hok : s.frameOk) : frameViolations s' = frameViolations s := by
  have hbyte := h.header hok.1
  simp only [frameViolations, frameVersion, frameSechdr, frameSync, frameOrder, frameSeglen, hbyte _ 0 (by omega),
    hbyte _ 4 (by omega)]

theorem plen_eq (hok : s.packetOk) : s'.plen = s.plen :=
  packetLength_congr _ _ (h.header hok.1 _ 4 (by omega)) (h.header hok.1 _ 5 (by omega))

theorem computedCrc_eq (hok : s.packetOk) : s'.computedCrc = s.computedCrc := by
  rw [State.computedCrc, State.computedCrc, h.plen_eq hok, h.len]
  split
  · rw [h.run_eq _ (by omega)]
  · rfl

theorem packetPec_eq (hfit : s.plen ≤ s.len) :
    packetPec (s'.view .pkPec) s.plen = packetPec (s.view .pkPec) s.plen := by
  have h7 : 7 ≤ s.plen := packetLength_ge _
  exact h.be_eq _ (by omega)

theorem readCrc_eq (hok : s.packetOk) : s'.readCrc = s.readCrc := by
  rw [State.readCrc, State.readCrc, h.plen_eq hok, h.len]
  split
  · rw [h.packetPec_eq ‹_›]
  · rfl

theorem packetViolations_eq (hok : s.packetOk) : packetViolations s' = packetViolations s := by
  have hbyte := h.header hok.1
  simp only [packetViolations, packetVersion, packetType, packetDfhFlag, packetSegFlags, hbyte _ 0 (by omega),
    hbyte _ 2 (by omega), h.len, h.plen_eq hok, h.computedCrc_eq hok, h.readCrc_eq hok]

/-! ## Responses -/

theorem respond (status : BitVec 16) (res0 : BitVec 64) (res1 : BitVec 32) :
    SameEffect s s' (.next (s.respond status res0 res1)) (.next (s'.respond status res0 res1)) :=
  ⟨_, _, [], rfl, rfl, rfl, rfl, rfl, h.extractor, h.reader, (List.append_nil _).symm, (List.append_nil _).symm⟩

theorem fail (cls : ErrClass) : SameEffect s s' (.next (s.fail cls)) (.next (s'.fail cls)) :=
  h.respond _ _ _

theorem succeed (res0 : BitVec 64) (res1 : BitVec 32) :
    SameEffect s s' (.next (s.succeed res0 res1)) (.next (s'.succeed res0 res1)) :=
  h.respond _ _ _

theorem counterRead {counter counter' : BitVec 32} (hcounter : counter' = counter) :
    SameEffect s s' (.next (s.succeed (counter.setWidth 64) 0#32)) (.next (s'.succeed (counter'.setWidth 64) 0#32)) :=
  hcounter ▸ h.succeed _ _

/-- R90: a response with the reader written. -/
theorem respond_setReader (frBound : Bool) (frCur : BitVec 32) (status : BitVec 16) (res0 : BitVec 64)
    (res1 : BitVec 32) :
    SameEffect s s' (.next ((s.setReader frBound frCur).respond status res0 res1))
      (.next ((s'.setReader frBound frCur).respond status res0 res1)) :=
  ⟨_, _, [], rfl, rfl, rfl, rfl, rfl, h.extractor, ⟨rfl, rfl⟩, (List.append_nil _).symm, (List.append_nil _).symm⟩

theorem frameAccessor {value value' : BitVec 64} (hvalue : s.frameOk → value' = value) :
    SameEffect s s' (frameAccessor s value) (frameAccessor s' value') :=
  .ite h.frameOk_iff (fun hok => hvalue hok ▸ h.succeed _ _) fun _ => h.fail _

theorem packetAccessor {bound bound' : Nat} {value value' : BitVec 64} (hbound : s.packetOk → bound' = bound)
    (hvalue : s.packetOk → bound ≤ s.len → value' = value) :
    SameEffect s s' (packetAccessor s bound value) (packetAccessor s' bound' value') :=
  .ite h.packetOk_iff (fun hok => .ite (by rw [h.len, hbound hok]) (fun _ => h.fail _)
    fun hfit => hvalue hok (Nat.le_of_not_lt hfit) ▸ h.succeed _ _) fun _ => h.fail _

/-! ## The FieldReader -/

/-- R93: FR.RDn reads at its cursor, in range. -/
theorem fieldRead (n : Nat) : SameEffect s s' (fieldRead n s) (fieldRead n s') := by
  obtain ⟨hbound, hcur⟩ := h.reader
  refine .ite (by rw [h.len, h.params]) (fun _ => h.fail _) fun _ =>
    .ite (by rw [hbound]) (fun _ => h.fail _) fun _ =>
    .ite (by rw [h.len, hcur]) (fun _ => h.fail _) fun hrange => ?_
  rw [hcur, h.be_eq _ (Nat.le_of_not_lt hrange)]
  have hwrite := h.respond_setReader s.frBound (BitVec.ofNat 32 (s.frCur.toNat + n)) 0#16
    (BitVec.ofNat 64 (be (s.view .field) s.frCur.toNat n)) 0#32
  exact hbound ▸ hwrite

theorem execFrBind : SameEffect s s' (execFrBind s) (execFrBind s') := by
  obtain ⟨-, hcur⟩ := h.reader
  refine .ite (by rw [h.len, h.params]) (fun _ => ?_) fun _ => h.respond_setReader true 0#32 _ _ _
  have hwrite := h.respond_setReader false s.frCur (statusWord 0#8 0#4 ErrClass.invalidArgument.code) 0#64 0#32
  exact hcur ▸ hwrite

/-- R90: the FieldReader commands. -/
theorem exec_fieldReader {i : Instr} (hi : i ∈ fieldReaderCommands) : SameEffect s s' (exec i s) (exec i s') := by
  obtain ⟨hbound, hcur⟩ := h.reader
  cases i with
  | frBind => exact h.execFrBind
  | frRd1 | frRd2 | frRd4 | frRd8 => exact h.fieldRead _
  | frOfs => exact .ite (by rw [hbound]) (fun _ => h.fail _) fun _ => hcur ▸ h.succeed _ _
  | _ => exact absurd hi (by decide)

/-! ## The read-only commands -/

theorem execFvData : SameEffect s s' (execFvData s) (execFvData s') := by
  refine .ite h.frameOk_iff (fun hok => ?_) fun _ => h.fail _
  have hhdr : frameHdr (s'.view .field) = frameHdr (s.view .field) := by
    rw [frameHdr_eq, frameHdr_eq, h.header hok.1 _ 1 (by omega)]
  rw [hhdr, h.len]
  exact .ite Iff.rfl (fun _ => h.fail _) fun _ => h.succeed _ _

theorem execPvPayload : SameEffect s s' (execPvPayload s) (execPvPayload s') := by
  refine .ite h.packetOk_iff (fun hok => ?_) fun _ => h.fail _
  rw [h.plen_eq hok, h.len]
  exact .ite Iff.rfl (fun _ => h.fail _) fun _ => h.succeed _ _

theorem execCrcCompute : SameEffect s s' (execCrcCompute s) (execCrcCompute s') := by
  rw [Machine.execCrcCompute, Machine.execCrcCompute, h.len, h.params, h.run_eq _ (by omega)]
  exact .ite Iff.rfl (fun _ => h.fail _) fun _ => h.succeed _ _

/-- R100: the commands on a frame read its header. -/
theorem exec_frameView {i : Instr} (hi : i ∈ frameViewCommands) : SameEffect s s' (exec i s) (exec i s') := by
  have hbyte (hok : s.frameOk) := h.header hok.1 .field
  cases i with
  | fvValidate => exact .ite h.frameOk_iff (fun hok => h.frameViolations_eq hok ▸ h.respond _ _ _) fun _ => h.fail _
  | fvScid =>
    exact h.frameAccessor fun hok => by
      rw [frameScid, frameScid, hbyte hok 0 (by omega), hbyte hok 1 (by omega)]
  | fvVcid => exact h.frameAccessor fun hok => by rw [frameVcid, frameVcid, hbyte hok 1 (by omega)]
  | fvMcfc => exact h.frameAccessor fun hok => by rw [frameMcfc, frameMcfc, hbyte hok 2 (by omega)]
  | fvVcfc => exact h.frameAccessor fun hok => by rw [frameVcfc, frameVcfc, hbyte hok 3 (by omega)]
  | fvOcf => exact h.frameAccessor fun hok => by rw [frameOcf, frameOcf, hbyte hok 1 (by omega)]
  | fvFhp =>
    exact h.frameAccessor fun hok => by
      rw [frameFhp, frameFhp, hbyte hok 4 (by omega), hbyte hok 5 (by omega)]
  | fvData => exact h.execFvData
  | _ => exact absurd hi (by decide)

/-- R120: the commands on a packet read its headers, and what lies below `ILEN` of the packet it declares. -/
theorem exec_packetView (hparams : s.params.wellFormed = true) {i : Instr} (hi : i ∈ packetViewCommands) :
    SameEffect s s' (exec i s) (exec i s') := by
  have hbyte (hok : s.packetOk) := h.header hok.1 .field
  have htime : 6 ≤ s.params.dfhTimeOff := by
    simp only [Params.wellFormed, Bool.and_eq_true, decide_eq_true_iff] at hparams
    obtain ⟨⟨-, h6⟩, -⟩ := hparams
    exact h6
  cases i with
  | pvValidate =>
    refine .ite h.packetOk_iff (fun hok => ?_) fun _ => h.fail _
    rw [h.packetViolations_eq hok, h.computedCrc_eq hok, h.readCrc_eq hok]
    exact h.respond _ _ _
  | pvApid =>
    exact h.packetAccessor (fun _ => rfl) fun hok _ => by
      rw [packetApid, packetApid, hbyte hok 0 (by omega), hbyte hok 1 (by omega)]
  | pvSeq =>
    exact h.packetAccessor (fun _ => rfl) fun hok _ => by
      rw [packetSeq, packetSeq, hbyte hok 2 (by omega), hbyte hok 3 (by omega)]
  | pvLen =>
    exact h.packetAccessor (fun _ => rfl) fun hok _ => by
      rw [packetLength_congr _ _ (hbyte hok 4 (by omega)) (hbyte hok 5 (by omega))]
  | pvStype | pvSsub | pvDest =>
    exact h.packetAccessor (fun _ => by rw [h.params]) fun _ hfit => by rw [h.params, h.view _ _ (by omega)]
  | pvTime =>
    exact h.packetAccessor (fun _ => by rw [h.params]) fun _ hfit => by
      rw [h.params, packetTime, packetTime, h.be_eq _ (by omega)]
  | pvPec =>
    exact h.packetAccessor h.plen_eq fun hok hfit => by rw [h.plen_eq hok, h.packetPec_eq hfit]
  | pvPayload => exact h.execPvPayload
  | _ => exact absurd hi (by decide)

end

end SameLoaded

/-! ## X.ADD and X.END carry the rest of the state along -/

/-- The parameters and the extractor's registers of `s`, with everything else as in `c`. -/
def State.within (s c : State) : State :=
  { c with
    params := s.params, cfgVcid := s.cfgVcid, started := s.started, expected := s.expected
    rbPresent := s.rbPresent, rb := s.rb, framesProcessed := s.framesProcessed
    packetsExtracted := s.packetsExtracted, framesMissing := s.framesMissing, packetsLost := s.packetsLost }

/-- The work of X.ADD with everything but the extractor's registers as in `c`. -/
def AddWork.within (c : State) (w : AddWork) : AddWork := { w with st := w.st.within c }

section

variable (c : State)

theorem addContinuity_within (ctr : BitVec 8) (w : AddWork) :
    addContinuity ctr (w.within c) = (addContinuity ctr w).within c := by
  simp only [addContinuity, apply_ite (AddWork.within c)]
  rfl

theorem addCount_within (ctr : BitVec 8) (w : AddWork) :
    addCount ctr (w.within c) = (addCount ctr w).within c := by
  have hsame : (w.within c).st.started = w.st.started := rfl
  cases hstarted : w.st.started with
  | false =>
    rw [addCount_of_not_started hstarted, addCount_of_not_started (hsame.trans hstarted)]
    rfl
  | true =>
    rw [addCount_of_started hstarted, addCount_of_started (hsame.trans hstarted)]
    exact congrArg (AddWork.expectAfter · ctr) (addContinuity_within c ctr w.countLater)

theorem addStartWithPending_within (w : AddWork) :
    addStartWithPending (w.within c) = (addStartWithPending w).within c := by
  have hsame : (w.within c).gap = w.gap := rfl
  rw [addStartWithPending, addStartWithPending, hsame]
  cases w.gap <;> rfl

theorem addContWithoutPending_within (fhp : BitVec 11) (w : AddWork) :
    addContWithoutPending fhp (w.within c) = (addContWithoutPending fhp w).within c := by
  have hgap : (w.within c).gap = w.gap := rfl
  have hfirst : (w.within c).first = w.first := rfl
  rw [addContWithoutPending, addContWithoutPending, hgap, hfirst]
  cases w.gap
  · cases w.first <;> rfl
  · rfl

theorem addComplete_within (fhp : BitVec 11) (w : AddWork) :
    addComplete fhp (w.within c) = (addComplete fhp w).within c := by
  simp only [addComplete, apply_ite (AddWork.within c)]
  rfl

theorem addResolve_within (F : ReadSite → View) (fhp : BitVec 11) (w : AddWork) :
    addResolve F fhp (w.within c) = (addResolve F fhp w).within c := by
  simp only [addResolve, apply_ite (AddWork.within c), ← addStartWithPending_within,
    ← addContWithoutPending_within, addContinue_eq_addComplete_join, ← addComplete_within]
  rfl

theorem addPackets_within (F : ReadSite → View) (fuel : Nat) (w : AddWork) :
    addPackets F fuel (w.within c) = (addPackets F fuel w).within c := by
  induction fuel generalizing w with
  | zero => rfl
  | succ n ih =>
    simp only [addPackets, apply_ite (AddWork.within c), ← ih]
    rfl

end

/-! ## X.ADD reads below `ILEN` -/

section

variable {F F' : ReadSite → View}

/-- R161: step 5 reads the bytes that continue the pending packet. -/
theorem addResolve_congr {fhp : BitVec 11} {w : AddWork}
    (hF : ∀ r, ∀ o < w.pos + w.continued fhp, F' r o = F r o) : addResolve F' fhp w = addResolve F fhp w := by
  have hrun : run (F' .addAppend) w.pos (w.continued fhp) = run (F .addAppend) w.pos (w.continued fhp) :=
    run_congr _ _ _ _ _ fun k hk => hF _ _ (by omega)
  simp only [addResolve, addContinue_eq_addComplete_join, AddWork.join, hrun]

/-- R166 to R171: step 6 reads the unconsumed bytes. -/
theorem addPackets_congr {fuel : Nat} {w : AddWork} (hF : ∀ r, ∀ o < w.pos + w.rem, F' r o = F r o) :
    addPackets F' fuel w = addPackets F fuel w := by
  induction fuel generalizing w with
  | zero => rfl
  | succ n ih =>
    have hrun (r : ReadSite) {m : Nat} (hm : m ≤ w.rem) : run (F' r) w.pos m = run (F r) w.pos m :=
      run_congr _ _ _ _ _ fun k hk => hF _ _ (by omega)
    rw [addPackets, addPackets, hrun .addTail le_rfl]
    by_cases h7 : w.rem < 7
    · rw [if_pos h7, if_pos h7]
    · have hplen : packetLength (shiftView (F' .addPeek) w.pos) = packetLength (shiftView (F .addPeek) w.pos) :=
        packetLength_congr _ _ (hF _ _ (by omega)) (hF _ _ (by omega))
      have hcrc : be (F' .addIdle) (w.pos + 5) 2 = be (F .addIdle) (w.pos + 5) 2 :=
        be_congr _ _ _ _ _ fun k hk => hF _ _ (by omega)
      rw [hplen, hcrc]
      dsimp only
      by_cases hfit : packetLength (shiftView (F .addPeek) w.pos) ≤ w.rem
      · rw [if_pos hfit, if_pos hfit, hrun .addPacket hfit, ih fun r o ho => hF r o (by simp at ho; omega)]
      · rw [if_neg hfit, if_neg hfit]

end

namespace SameLoaded

variable {s s' : State}

section

variable (h : SameLoaded s s')
include h

theorem within_eq : s.within s' = s' := by
  obtain ⟨hvcid, hstarted, hexpected, hpresent, hrb, hprocessed, hextracted, hmissing, hlost⟩ := h.extractor
  rw [State.within, ← h.params, ← hvcid, ← hstarted, ← hexpected, ← hpresent, ← hrb, ← hprocessed, ← hextracted,
    ← hmissing, ← hlost]

/-- R173: an accepted X.ADD does the same to the extractor in both states, and produces the same events. -/
theorem addAccepted_eq (haccepts : s.addAccepts) (ctr : BitVec 8) :
    addAccepted s' ctr s.fhp s.zoneLength = (addAccepted s ctr s.fhp s.zoneLength).within s' := by
  have hbegin : addBegin s' s.zoneLength = (addBegin s s.zoneLength).within s' := by
    rw [AddWork.within, show (addBegin s s.zoneLength).st = s from rfl, h.within_eq]
    rfl
  have hcount : (addBegin s s.zoneLength).SoundTo (addCount ctr (addBegin s s.zoneLength)) := addCount_soundTo ctr _
  have hrem : (addCount ctr (addBegin s s.zoneLength)).rem = s.zoneLength := addCount_rem ctr _
  unfold addAccepted
  dsimp only
  rw [hbegin, addCount_within]
  by_cases hidle : s.fhp = fhpIdleData
  · rw [if_pos hidle, if_pos hidle]
  · obtain ⟨hzone, hfhp⟩ := s.addAccepts_zone haccepts hidle
    generalize addCount ctr (addBegin s s.zoneLength) = w at hcount hrem
    have hend : w.pos + w.rem ≤ s.len := hcount.zoneEnd.trans_le hzone
    have hcontinued : w.continued s.fhp ≤ w.rem := AddWork.continued_le (hrem.symm ▸ hfhp)
    have hend' : (addResolve s.view s.fhp w).pos + (addResolve s.view s.fhp w).rem ≤ s.len :=
      (addResolve_soundTo s.view hcontinued).zoneEnd.trans_le hend
    rw [if_neg hidle, if_neg hidle, addResolve_within,
      addResolve_congr (F := s.view) fun r o ho => h.view r o (by omega), addPackets_within,
      addPackets_congr (F := s.view) fun r o ho => h.view r o (lt_of_lt_of_le ho hend')]
    rfl

/-- R151: a command of the extractor that does the same in both states. -/
theorem commit {u : State} (hgrows : s.GrowsTo u) (events : List Event) :
    SameEffect s s' (.next (u.commit events)) (.next ((u.within s').commit events)) := by
  obtain ⟨hbound, hcur⟩ := h.reader
  exact ⟨_, _, events, rfl, rfl, rfl, rfl, rfl, ⟨rfl, rfl, rfl, rfl, rfl, rfl, rfl, rfl, rfl⟩,
    ⟨hbound.trans hgrows.frBound_eq.symm, hcur.trans hgrows.frCur_eq.symm⟩,
    by rw [State.commit_out, hgrows.out_eq], rfl⟩

theorem execXEnd : SameEffect s s' (execXEnd s) (execXEnd s') := by
  suffices SameEffect s s' (Machine.execXEnd s) (Machine.execXEnd (s.within s')) by rwa [h.within_eq] at this
  exact .ite Iff.rfl (fun _ => h.commit (.refl s) _) fun _ =>
    .ite Iff.rfl (fun _ => h.commit s.growsTo_clearRb _) fun _ => h.commit s.growsTo_clearRb_losePacket _

/-- R151, R185: the fields that X.ADD decodes at entry lie in the header of the frame. -/
theorem execXAdd : SameEffect s s' (execXAdd s) (execXAdd s') := by
  refine .ite h.frameOk_iff (fun hok => ?_) fun _ => h.fail _
  obtain ⟨hcfg, -⟩ := h.extractor
  have hbyte := h.header hok.1
  have hvcid : frameVcid (s'.view .addVcid) = frameVcid (s.view .addVcid) := by
    rw [frameVcid, frameVcid, hbyte _ 1 (by omega)]
  have hhdr : frameHdr (s'.view .addOcf) = frameHdr (s.view .addOcf) := by
    rw [frameHdr_eq, frameHdr_eq, hbyte _ 1 (by omega)]
  have hctr : frameVcfc (s'.view .addCounter) = frameVcfc (s.view .addCounter) := hbyte _ 3 (by omega)
  have hfhp : frameFhp (s'.view .addFhp) = frameFhp (s.view .addFhp) := by
    rw [frameFhp, frameFhp, hbyte _ 4 (by omega), hbyte _ 5 (by omega)]
  refine .ite (by rw [hvcid, hcfg]) (fun _ => h.fail _) fun hchannel => ?_
  refine .ite (by rw [hfhp, hhdr, h.len]) (fun _ => h.fail _) fun hbounds => ?_
  have hsame := h.addAccepted_eq ⟨hok, not_not.mp hchannel, hbounds⟩ (frameVcfc (s.view .addCounter))
  rw [hctr, hfhp, hhdr, h.len]
  change SameEffect s s' (.next ((addAccepted s _ s.fhp s.zoneLength).st.commit _))
    (.next ((addAccepted s' _ s.fhp s.zoneLength).st.commit (addAccepted s' _ s.fhp s.zoneLength).events))
  rw [hsame]
  exact h.commit (addAccepted_growsTo s _ _ _) _

/-- R185: every command does the same in both states. -/
theorem exec_sameEffect (hparams : s.params.wellFormed = true) (i : Instr) :
    SameEffect s s' (exec i s) (exec i s') := by
  obtain ⟨-, -, -, -, -, hprocessed, hextracted, hmissing, hlost⟩ := h.extractor
  cases i with
  | frBind | frRd1 | frRd2 | frRd4 | frRd8 | frOfs => exact h.exec_fieldReader (by decide)
  | fvValidate | fvScid | fvVcid | fvMcfc | fvVcfc | fvOcf | fvFhp | fvData => exact h.exec_frameView (by decide)
  | pvValidate | pvApid | pvSeq | pvLen | pvStype | pvSsub | pvDest | pvTime | pvPec | pvPayload =>
    exact h.exec_packetView hparams (by decide)
  | crcCompute => exact h.execCrcCompute
  | xAdd => exact h.execXAdd
  | xEnd => exact h.execXEnd
  | xNproc => exact h.counterRead hprocessed
  | xNextr => exact h.counterRead hextracted
  | xNmiss => exact h.counterRead hmissing
  | xNlost => exact h.counterRead hlost

end

end SameLoaded

/-- Settles O57: loaded bytes read alike, and then every command does the same. -/
theorem answersDependOnTheLoadedBytesOnly : Obligations.AnswersDependOnTheLoadedBytesOnly :=
  fun i _ _ hparams hsame hilen hextractor hreader hloaded hbytes =>
    (SameLoaded.of_loaded hsame hilen hextractor hreader hloaded hbytes).exec_sameEffect hparams i

end Sys2Proof.Machine
end

section
/-! Which error a command answers (spec/60_exceptions.md R190 to R199): the checks of every command in their order, one
lemma for the commands that each check stops and one for what is left behind them. -/

namespace Sys2Proof.Machine

/-! ## The class of a response -/

/-- R191: the class of an error response. -/
theorem State.fail_statusErr (s : State) (cls : ErrClass) : statusErr (s.fail cls).status = cls.code :=
  statusErr_statusWord _ _ _

/-- R190, R191: where `CAUSE` and `VMASK` are 0, `STATUS` is the number of the class. -/
theorem statusWord_code (cls : ErrClass) : statusWord 0#8 0#4 cls.code = cls.code.setWidth 16 := by
  cases cls <;> decide

/-- R104, R124: a validate command answers OK or the class of its unit. -/
theorem statusErr_validationStatus (cls : ErrClass) (m : BitVec 8) :
    statusErr (validationStatus cls m) = 0#4 ∨ statusErr (validationStatus cls m) = cls.code := by
  unfold validationStatus
  split
  · exact .inl (by decide)
  · exact .inr (statusErr_statusWord _ _ _)

/-- R190, R194, R195: no error but the violated rules that a validate command reports. -/
def PassesChecks (i : Instr) (t : State) : Prop :=
  statusErr t.status = 0#4 ∨ (i = .fvValidate ∧ statusErr t.status = 3#4) ∨
    (i = .pvValidate ∧ statusErr t.status = 4#4)

theorem PassesChecks.of_ok {i : Instr} {t : State} (h : t.status = 0#16) : PassesChecks i t :=
  .inl (h ▸ by decide)

/-! ## The checks in their order -/

/-- R191: the state in which a failing command answers: the one it began in, but a failing FR.BIND leaves no reader. -/
def State.beforeFailure (s : State) (i : Instr) : State :=
  s.setReader (if i = .frBind then false else s.frBound) s.frCur

section

variable {s : State} {i : Instr}

/-- R192: what the check of the argument stops. -/
theorem exec_of_badArgument (h : s.badArgument i) :
    exec i s = .next ((s.beforeFailure i).fail .invalidArgument) := by
  cases i with
  | frBind => exact execFrBind_of_badArgument h
  | frRd1 | frRd2 | frRd4 | frRd8 => exact fieldRead_of_badArgument h
  | frOfs => exact execFrOfs_of_unbound h
  | fvValidate | fvScid | fvVcid | fvMcfc | fvVcfc | fvOcf | fvFhp | fvData | xAdd =>
    exact exec_of_not_frameOk (by decide) (State.not_frameOk_iff.mpr h)
  | pvValidate | pvApid | pvSeq | pvLen | pvStype | pvSsub | pvDest | pvTime | pvPec | pvPayload =>
    exact exec_of_not_packetOk (by decide) (State.not_packetOk_iff.mpr h)
  | crcCompute => exact execCrcCompute_of_over h
  | xEnd | xNproc | xNextr | xNmiss | xNlost => exact h.elim

/-- R101: the check of the argument leaves FV.* and X.ADD a frame. -/
theorem State.frameOk_of_not_badArgument (hi : i ∈ frameViewCommands ++ [Instr.xAdd]) (h : ¬ s.badArgument i) :
    s.frameOk := by
  by_contra hframe
  rw [State.not_frameOk_iff] at hframe
  cases i with
  | fvValidate | fvScid | fvVcid | fvMcfc | fvVcfc | fvOcf | fvFhp | fvData | xAdd => exact h hframe
  | _ => exact absurd hi (by decide)

/-- R121: it leaves PV.* a packet. -/
theorem State.packetOk_of_not_badArgument (hi : i ∈ packetViewCommands) (h : ¬ s.badArgument i) : s.packetOk := by
  by_contra hpacket
  rw [State.not_packetOk_iff] at hpacket
  cases i with
  | pvValidate | pvApid | pvSeq | pvLen | pvStype | pvSsub | pvDest | pvTime | pvPec | pvPayload => exact h hpacket
  | _ => exact absurd hi (by decide)

/-- R92: it leaves FR.RDn a reader and a buffer within its capacity. -/
theorem State.reader_of_not_badArgument (h : ¬ (s.params.ibufCap < s.len ∨ s.frBound = false)) :
    s.len ≤ s.params.ibufCap ∧ s.frBound = true := by
  simpa only [not_or, not_lt, Bool.not_eq_false] using h

/-- R196: the check of the channel, which X.ADD alone makes. -/
theorem exec_of_wrongChannel (hbad : ¬ s.badArgument i) (h : s.wrongChannel i) :
    exec i s = .next ((s.beforeFailure i).fail .wrongChannel) := by
  obtain ⟨rfl, hvcid⟩ := h
  exact execXAdd_of_wrongChannel (State.frameOk_of_not_badArgument (by decide) hbad) hvcid

/-- R75, R154: the data-zone checks of X.ADD, with the pointers of packets as a range of numbers. -/
theorem State.pastTheEnd_xAdd_iff :
    s.pastTheEnd .xAdd ↔ addOutOfBounds s.len (frameHdr (s.view .addOcf)) (frameFhp (s.view .addFhp)) := by
  refine and_congr_right fun hidle => or_congr_right (and_congr_left' ?_)
  rw [fhpNoPacketStart, ← BitVec.toNat_ne_iff_ne]
  rw [← BitVec.toNat_ne_iff_ne] at hidle
  simp only [BitVec.toNat_ofNat, Nat.reducePow, Nat.reduceMod] at hidle ⊢
  have := (frameFhp (s.view .addFhp)).isLt
  omega

/-- R193: what the check of the bounds stops. -/
theorem exec_of_pastTheEnd (hbad : ¬ s.badArgument i) (hchannel : ¬ s.wrongChannel i) (h : s.pastTheEnd i) :
    exec i s = .next ((s.beforeFailure i).fail .outOfBounds) := by
  cases i with
  | frRd1 | frRd2 | frRd4 | frRd8 =>
    obtain ⟨hcap, hbound⟩ := State.reader_of_not_badArgument hbad
    exact fieldRead_of_pastTheEnd hcap hbound h
  | fvData => exact execFvData_of_len_lt (State.frameOk_of_not_badArgument (by decide) hbad) h
  | pvStype | pvSsub | pvDest | pvTime | pvPec =>
    rw [State.fail_outOfBounds]
    exact packetAccessor_of_len_lt (State.packetOk_of_not_badArgument (by decide) hbad) h _
  | pvPayload =>
    rw [State.fail_outOfBounds]
    exact execPvPayload_of_pastTheEnd (State.packetOk_of_not_badArgument (by decide) hbad) h
  | xAdd =>
    exact execXAdd_of_outOfBounds (State.frameOk_of_not_badArgument (by decide) hbad)
      (not_not.mp fun hvcid => hchannel ⟨rfl, hvcid⟩) (State.pastTheEnd_xAdd_iff.mp h)
  | frBind | frOfs | fvValidate | fvScid | fvVcid | fvMcfc | fvVcfc | fvOcf | fvFhp | pvValidate | pvApid
  | pvSeq | pvLen | crcCompute | xEnd | xNproc | xNextr | xNmiss | xNlost => exact h.elim

/-- R152: X.ADD takes a frame that passes its checks. -/
theorem State.addAccepts_of_passes (hbad : ¬ s.badArgument .xAdd) (hchannel : ¬ s.wrongChannel .xAdd)
    (hpast : ¬ s.pastTheEnd .xAdd) : s.addAccepts :=
  ⟨State.frameOk_of_not_badArgument (by decide) hbad, not_not.mp fun hvcid => hchannel ⟨rfl, hvcid⟩,
    mt State.pastTheEnd_xAdd_iff.mpr hpast⟩

/-- R190: behind its checks a command succeeds, unless it validates and finds a rule violated. -/
theorem exec_of_passes (hbad : ¬ s.badArgument i) (hchannel : ¬ s.wrongChannel i) (hpast : ¬ s.pastTheEnd i) :
    ∃ t, exec i s = .next t ∧ PassesChecks i t := by
  cases i with
  | frBind => exact ⟨_, execFrBind_of_goodArgument hbad, .of_ok rfl⟩
  | frRd1 | frRd2 | frRd4 | frRd8 =>
    obtain ⟨hcap, hbound⟩ := State.reader_of_not_badArgument hbad
    exact ⟨_, fieldRead_of_readable ⟨hbound, hcap, not_lt.mp hpast⟩, .of_ok rfl⟩
  | frOfs => exact ⟨_, execFrOfs_of_bound (eq_true_of_ne_false hbad), .of_ok rfl⟩
  | fvValidate =>
    refine ⟨_, execFvValidate_of_frameOk (State.frameOk_of_not_badArgument (by decide) hbad), ?_⟩
    exact (statusErr_validationStatus _ _).imp_right fun hcls => .inl ⟨rfl, hcls⟩
  | fvScid | fvVcid | fvMcfc | fvVcfc | fvOcf | fvFhp =>
    exact ⟨_, frameAccessor_of_frameOk (State.frameOk_of_not_badArgument (by decide) hbad) rfl, .of_ok rfl⟩
  | fvData =>
    have hframe : s.frameOk := State.frameOk_of_not_badArgument (by decide) hbad
    exact ⟨_, execFvData_of_hdr_le hframe (not_lt.mp hpast), .of_ok rfl⟩
  | pvValidate =>
    refine ⟨_, execPvValidate_of_packetOk (State.packetOk_of_not_badArgument (by decide) hbad), ?_⟩
    exact (statusErr_validationStatus _ _).imp_right fun hcls => .inr ⟨rfl, hcls⟩
  | pvApid | pvSeq | pvLen =>
    have hpacket : s.packetOk := State.packetOk_of_not_badArgument (by decide) hbad
    exact ⟨_, packetAccessor_of_le hpacket (le_trans (by decide) hpacket.1) _, .of_ok rfl⟩
  | pvStype | pvSsub | pvDest | pvTime | pvPec =>
    have hpacket : s.packetOk := State.packetOk_of_not_badArgument (by decide) hbad
    exact ⟨_, packetAccessor_of_le hpacket (not_lt.mp hpast) _, .of_ok rfl⟩
  | pvPayload =>
    have hpacket : s.packetOk := State.packetOk_of_not_badArgument (by decide) hbad
    obtain ⟨h18, hfit⟩ := not_or.mp hpast
    exact ⟨_, execPvPayload_of_whole hpacket (not_lt.mp h18) (not_lt.mp hfit), .of_ok rfl⟩
  | crcCompute => exact ⟨_, execCrcCompute_of_le (not_lt.mp hbad), .of_ok rfl⟩
  | xAdd => exact ⟨_, execXAdd_accepted s (State.addAccepts_of_passes hbad hchannel hpast), .of_ok rfl⟩
  | xEnd =>
    obtain ⟨u, events, hexec, -⟩ := execXEnd_cases s
    exact ⟨_, hexec, .of_ok rfl⟩
  | xNproc | xNextr | xNmiss | xNlost => exact ⟨_, rfl, .of_ok rfl⟩

/-- R191: what a failing command leaves, written out field by field. -/
theorem State.beforeFailure_fail (cls : ErrClass) :
    (s.beforeFailure i).fail cls = { s with
      status := (statusErr ((s.beforeFailure i).fail cls).status).setWidth 16, res0 := 0#64, res1 := 0#32
      frBound := if i = .frBind then false else s.frBound } := by
  rw [State.fail_statusErr, ← statusWord_code]
  rfl

end

/-! ## The statement -/

/-- Settles O51: the three checks in their order, and what is behind them; each outcome has its own class, so the class
tells which check stopped the command. -/
theorem failuresAreExactAndLeaveNoTrace : Obligations.FailuresAreExactAndLeaveNoTrace := by
  intro i s t h
  by_cases hbad : s.badArgument i
  · obtain rfl := Host.Outcome.next.inj (h.symm.trans (exec_of_badArgument hbad))
    refine ⟨?_, ?_, ?_, ?_, ?_, ?_, fun _ => State.beforeFailure_fail _⟩ <;>
      simp [statusErr_statusWord, ErrClass.code, hbad]
  by_cases hchannel : s.wrongChannel i
  · obtain rfl := Host.Outcome.next.inj (h.symm.trans (exec_of_wrongChannel hbad hchannel))
    refine ⟨?_, ?_, ?_, ?_, ?_, ?_, fun _ => State.beforeFailure_fail _⟩ <;>
      simp [statusErr_statusWord, ErrClass.code, hbad, hchannel]
  by_cases hpast : s.pastTheEnd i
  · obtain rfl := Host.Outcome.next.inj (h.symm.trans (exec_of_pastTheEnd hbad hchannel hpast))
    refine ⟨?_, ?_, ?_, ?_, ?_, ?_, fun _ => State.beforeFailure_fail _⟩ <;>
      simp [statusErr_statusWord, ErrClass.code, hbad, hchannel, hpast]
  · obtain ⟨u, hexec, hpasses⟩ := exec_of_passes hbad hchannel hpast
    obtain rfl := Host.Outcome.next.inj (h.symm.trans hexec)
    rcases hpasses with herr | ⟨rfl, herr⟩ | ⟨rfl, herr⟩ <;> simp [herr, hbad, hchannel, hpast]

end Sys2Proof.Machine
end

section
/-! The diagnostics of a command (spec/60_exceptions.md R205, R206): each step of X.ADD keeps the events of the command
in progress such as X.ADD may produce them, and X.END reports END_INCOMPLETE alone. -/

namespace Sys2Proof.Machine

/-- R205, R206: an event as command `i` may produce it: a diagnostic has the severity of its code; END_INCOMPLETE is
X.END's, the other codes are X.ADD's, which shows no bytes. -/
def Event.fromCommand (p : Params) (i : Instr) : Event → Prop
  | .emit _ _ _ => True
  | .diag code severity _ _ preview => severity = diagSeverity p code ∧
      ((code = .endIncomplete ∧ i = .xEnd) ∨ (code ≠ .endIncomplete ∧ i = .xAdd ∧ preview = []))

theorem emitEvent_fromCommand (p : Params) (i : Instr) (bytes : List Byte) (reconstructed : Bool) :
    (emitEvent bytes reconstructed).fromCommand p i := trivial

theorem diagEvent_fromCommand_xAdd (p : Params) {code : DiagCode} (hcode : code ≠ .endIncomplete) (arg0 arg1 : Nat) :
    (diagEvent p code arg0 arg1 []).fromCommand p .xAdd := ⟨rfl, .inr ⟨hcode, rfl, rfl⟩⟩

/-- R169, R170: step 6 reports idle fill alone. -/
theorem ZoneRun.events_fromCommand {F : ReadSite → View} {p : Params} {pos rem : Nat} {events : List Event}
    {pending : Option (List Byte)} (h : ZoneRun F p pos rem events pending) :
    ∀ e ∈ events, e.fromCommand p .xAdd := by
  induction h with
  | done | short | tail => simp
  | idle => exact List.forall_mem_singleton.mpr (diagEvent_fromCommand_xAdd p (by decide) _ _)
  | packet _ _ _ _ _ _ _ _ _ _ ih => exact List.forall_mem_cons.mpr ⟨emitEvent_fromCommand p _ _ _, ih⟩

/-! ## X.ADD in progress -/

/-- R205: all events of the X.ADD in progress are such as it may produce them. -/
def AddWork.Reports (w : AddWork) : Prop := ∀ e ∈ w.events, e.fromCommand w.st.params .xAdd

section

variable {w w' : AddWork}

theorem AddWork.Reports.congr (hevents : w'.events = w.events) (hparams : w'.st.params = w.st.params)
    (h : w.Reports) : w'.Reports := by
  rwa [AddWork.Reports, hevents, hparams]

theorem AddWork.Reports.append {new : List Event} (hevents : w'.events = w.events ++ new)
    (hparams : w'.st.params = w.st.params) (h : w.Reports) (hnew : ∀ e ∈ new, e.fromCommand w.st.params .xAdd) :
    w'.Reports := by
  rw [AddWork.Reports, hevents, hparams]
  exact List.forall_mem_append.mpr ⟨h, hnew⟩

/-- R205: X.ADD has no other diagnostics than the six codes that are not END_INCOMPLETE. -/
theorem AddWork.Reports.diag (h : w.Reports) {code : DiagCode} (hcode : code ≠ .endIncomplete) (arg0 arg1 : Nat) :
    (w.diag code arg0 arg1).Reports :=
  h.append rfl rfl (List.forall_mem_singleton.mpr (diagEvent_fromCommand_xAdd _ hcode _ _))

theorem AddWork.Reports.emit (h : w.Reports) (bytes : List Byte) (reconstructed : Bool) :
    (w.emit bytes reconstructed).Reports :=
  h.append rfl rfl (List.forall_mem_singleton.mpr (emitEvent_fromCommand _ _ _ _))

/-- R155: step 2 reports FRAME_GAP. -/
theorem addContinuity_reports (ctr : BitVec 8) (h : w.Reports) : (addContinuity ctr w).Reports := by
  rcases addContinuity_cases ctr w with hsame | ⟨_, _, -, -, -, hevents⟩
  · rwa [hsame]
  · exact h.append hevents (addContinuity_growsTo ctr w).params_eq
      (List.forall_mem_singleton.mpr (diagEvent_fromCommand_xAdd _ (by decide) _ _))

theorem addCount_reports (ctr : BitVec 8) (h : w.Reports) : (addCount ctr w).Reports := by
  cases hstarted : w.st.started with
  | false =>
    rw [addCount_of_not_started hstarted]
    exact h
  | true =>
    rw [addCount_of_started hstarted]
    have hcounted : w.countLater.Reports := h
    exact addContinuity_reports ctr hcounted

/-- R159: step 5a reports PROTO_START_WITH_PENDING. -/
theorem addStartWithPending_reports (h : w.Reports) : (addStartWithPending w).Reports := by
  unfold addStartWithPending
  cases w.gap
  · exact h.diag (by decide) _ _
  · exact h

/-- R160: step 5b reports FIRST_FRAME_CONTINUATION or PROTO_CONT_WITHOUT_PENDING. -/
theorem addContWithoutPending_reports (fhp : BitVec 11) (h : w.Reports) : (addContWithoutPending fhp w).Reports := by
  unfold addContWithoutPending
  cases w.gap
  · cases w.first
    · exact h.diag (by decide) _ _
    · exact h.diag (by decide) _ _
  · exact h

/-- R162 to R165: the completion test reports PACKET_INCOMPLETE. -/
theorem addComplete_reports (fhp : BitVec 11) (h : w.Reports) : (addComplete fhp w).Reports := by
  by_cases hcomplete : 7 ≤ w.st.rbLen ∧ packetLength (listView w.st.rb) ≤ w.st.rbLen
  · rw [addComplete_complete fhp w hcomplete]
    exact h.emit _ _
  · by_cases hnone : fhp = fhpNoPacketStart
    · rwa [hnone, addComplete_kept w hcomplete]
    · rw [addComplete_lost fhp w hcomplete hnone]
      exact h.diag (by decide) _ _

theorem addResolve_reports (F : ReadSite → View) (fhp : BitVec 11) (h : w.Reports) :
    (addResolve F fhp w).Reports := by
  unfold addResolve
  split
  · exact addStartWithPending_reports h
  · split
    · exact addContWithoutPending_reports fhp h
    · split
      · rw [addContinue_eq_addComplete_join]
        have hjoined : (w.join F (w.continued fhp)).Reports := h
        exact addComplete_reports fhp hjoined
      · exact h

/-- R166 to R171: step 6. -/
theorem addPackets_reports (F : ReadSite → View) (h : w.Reports) : (addPackets F w.rem w).Reports := by
  obtain ⟨events, pending, hzone, hevents, -⟩ := addPackets_zoneRun F w.rem w le_rfl
  exact h.append hevents (addPackets_growsTo F w).params_eq hzone.events_fromCommand

end

/-- R173: an accepted X.ADD, idle or not. -/
theorem addAccepted_reports (s : State) (ctr : BitVec 8) (fhp : BitVec 11) (n : Nat) :
    (addAccepted s ctr fhp n).Reports := by
  have hbegin : (addBegin s n).Reports := fun _ he => absurd he List.not_mem_nil
  have hcount := addCount_reports ctr hbegin
  unfold addAccepted
  dsimp only
  split
  · exact hcount
  · exact addPackets_reports _ (addResolve_reports _ _ hcount)

/-! ## Every command -/

section

variable {i : Instr} {s t : State}

/-- R205: X.ADD reports as its steps do, and nothing where it rejects the frame. -/
theorem execXAdd_events_fromCommand (h : execXAdd s = .next t) :
    ∃ events, t.out = s.out ++ events ∧ ∀ e ∈ events, e.fromCommand s.params .xAdd := by
  by_cases haccepts : s.addAccepts
  · obtain rfl := Host.Outcome.next.inj (h.symm.trans (execXAdd_accepted s haccepts))
    have hgrows := addAccepted_growsTo s (frameVcfc (s.view .addCounter)) s.fhp s.zoneLength
    refine ⟨_, by rw [State.commit_out, hgrows.out_eq], fun e he => ?_⟩
    rw [← hgrows.params_eq]
    exact addAccepted_reports s _ _ _ e he
  · obtain ⟨cls, -, -, hfail⟩ := execXAdd_rejected s haccepts
    obtain rfl := Host.Outcome.next.inj (h.symm.trans hfail)
    exact ⟨[], (List.append_nil _).symm, by simp⟩

/-- R178: X.END reports END_INCOMPLETE where it counts a loss. -/
theorem execXEnd_events_fromCommand (h : execXEnd s = .next t) :
    ∃ events, t.out = s.out ++ events ∧ ∀ e ∈ events, e.fromCommand s.params .xEnd := by
  cases hpresent : s.rbPresent with
  | false =>
    obtain rfl := Host.Outcome.next.inj (h.symm.trans (execXEnd_of_absent hpresent))
    exact ⟨[], (List.append_nil _).symm, by simp⟩
  | true =>
    cases hbenign : rbBenign s.rb with
    | true =>
      obtain rfl := Host.Outcome.next.inj (h.symm.trans (execXEnd_of_benign hpresent hbenign))
      exact ⟨[], (List.append_nil _).symm, by simp⟩
    | false =>
      obtain rfl := Host.Outcome.next.inj (h.symm.trans (execXEnd_of_loss hpresent hbenign))
      exact ⟨[_], rfl, List.forall_mem_singleton.mpr ⟨rfl, .inl ⟨rfl, rfl⟩⟩⟩

/-- R10: the other commands append nothing. -/
theorem exec_events_fromCommand (h : exec i s = .next t) :
    ∃ events, t.out = s.out ++ events ∧ ∀ e ∈ events, e.fromCommand s.params i := by
  by_cases hAdd : i = .xAdd
  · subst hAdd
    exact execXAdd_events_fromCommand h
  · by_cases hEnd : i = .xEnd
    · subst hEnd
      exact execXEnd_events_fromCommand h
    · obtain ⟨-, hunit⟩ := unitsKeepToTheirOwnState i s t h
      exact ⟨[], by rw [(hunit hAdd hEnd).2, List.append_nil], by simp⟩

end

/-- Settles O50: what a command may append, said of one diagnostic. -/
theorem diagnosticsCarryTheirSeverity : Obligations.DiagnosticsCarryTheirSeverity := by
  intro i s t h
  obtain ⟨events, hout, hfrom⟩ := exec_events_fromCommand h
  exact ⟨events, hout, fun _ _ _ _ _ hmem => hfrom _ hmem⟩

end Sys2Proof.Machine
end

section
/-! How the four counters grow (spec/60_exceptions.md R209, spec/10_state.md R22, R23): an accepted X.ADD leaves an
`addResult`, which loses a packet in four of the five cases of R209 and in no other; X.END loses one in the fifth, and
no other command counts anything. -/

namespace Sys2Proof.Machine

/-! ## The losses -/

/-- R209 (1) to (4): where an accepted X.ADD loses a packet: to a gap, to a start at offset 0, with continuation bytes
that have nothing to continue, and where the pending packet falls short. -/
def State.addLoses (s : State) : Prop :=
  (s.missed ≠ 0#8 ∧ s.rbPresent = true) ∨
  (s.missed = 0#8 ∧ s.rbPresent = true ∧ s.fhp = 0#11) ∨
  (s.missed = 0#8 ∧ s.rbPresent = false ∧ s.started = true ∧ s.fhp ≠ 0#11 ∧ s.fhp ≠ fhpIdleData) ∨
  (s.missed = 0#8 ∧ s.rbPresent = true ∧ s.fhp ≠ 0#11 ∧ s.fhp ≠ fhpIdleData ∧ s.fhp ≠ fhpNoPacketStart ∧
    s.joinedComplete = false)

/-- R209: where a command loses a packet. -/
def State.losesPacket (s : State) (i : Instr) : Prop :=
  (i = .xAdd ∧ s.addAccepts ∧ s.addLoses) ∨ (i = .xEnd ∧ s.rbPresent = true ∧ rbBenign s.rb = false)

/-- R209: `lost` counts one packet where `p` holds, and else none. -/
structure CountsLoss (lost : Nat) (p : Prop) : Prop where
  le_one : lost ≤ 1
  eq_one_iff : lost = 1 ↔ p

theorem CountsLoss.one {p : Prop} (h : p) : CountsLoss 1 p := ⟨le_rfl, iff_of_true rfl h⟩

theorem CountsLoss.zero {p : Prop} (h : ¬ p) : CountsLoss 0 p := ⟨Nat.zero_le 1, iff_of_false Nat.zero_ne_one h⟩

theorem CountsLoss.congr {lost : Nat} {p q : Prop} (h : CountsLoss lost p) (hpq : p ↔ q) : CountsLoss lost q :=
  ⟨h.le_one, h.eq_one_iff.trans hpq⟩

section

variable {s : State}

theorem State.stillPending_iff : s.stillPending = true ↔ s.rbPresent = true ∧ s.missed = 0#8 := by
  rw [State.stillPending, Bool.and_eq_true, beq_iff_eq]

/-- R155, R209 (1): step 2 loses a packet that is pending to a gap. -/
theorem State.gapLost_countsLoss : CountsLoss s.gapLost (s.missed ≠ 0#8 ∧ s.rbPresent = true) := by
  unfold State.gapLost
  split
  · exact .one ‹_›
  · exact .zero ‹_›

/-- R209 (1): after a gap nothing else loses a packet. -/
theorem State.addLoses_iff_of_gap (h : s.missed ≠ 0#8) : s.missed ≠ 0#8 ∧ s.rbPresent = true ↔ s.addLoses := by
  simp [State.addLoses, h]

/-- R156, R209: an idle frame loses a packet to a gap only. -/
theorem State.addLoses_iff_of_idle (h : s.fhp = fhpIdleData) :
    s.missed ≠ 0#8 ∧ s.rbPresent = true ↔ s.addLoses := by
  have hzero : fhpIdleData ≠ 0#11 := by decide
  simp [State.addLoses, h, hzero]

/-- R158, R209: so does a frame that starts at offset 0 with nothing pending. -/
theorem State.addLoses_iff_of_start (h : s.fhp = 0#11) (hpending : s.stillPending = false) :
    s.missed ≠ 0#8 ∧ s.rbPresent = true ↔ s.addLoses := by
  have hnone : s.missed = 0#8 → s.rbPresent = false := fun hmissed => by
    simpa [State.stillPending, hmissed] using hpending
  simp +contextual [State.addLoses, h, hnone]

/-- R160, R209 (1), (3): continuation bytes with nothing pending, after a gap, on a later frame, on the first one. -/
theorem State.nothingPending_countsLoss (hfhp : s.fhp ≠ 0#11) (hidle : s.fhp ≠ fhpIdleData)
    (hpending : s.stillPending = false) :
    CountsLoss (if s.missed ≠ 0#8 then s.gapLost else if s.started then 1 else 0) s.addLoses := by
  by_cases hmissed : s.missed = 0#8
  · have hnone : s.rbPresent = false := by simpa [State.stillPending, hmissed] using hpending
    rw [if_neg (not_not.mpr hmissed)]
    cases hstarted : s.started with
    | false => exact .zero (by simp [State.addLoses, hmissed, hnone, hstarted])
    | true => exact .one (.inr (.inr (.inl ⟨hmissed, hnone, hstarted, hfhp, hidle⟩)))
  · rw [if_pos hmissed]
    exact State.gapLost_countsLoss.congr (State.addLoses_iff_of_gap hmissed)

/-- R161 to R165, R209 (4): a continued packet is lost where it falls short in a frame in which another one starts. -/
theorem State.addLoses_iff_of_continued (hfhp : s.fhp ≠ 0#11) (hidle : s.fhp ≠ fhpIdleData)
    (hpending : s.stillPending = true) :
    s.addLoses ↔ s.fhp ≠ fhpNoPacketStart ∧ s.joinedComplete = false := by
  obtain ⟨hpresent, hmissed⟩ := State.stillPending_iff.mp hpending
  simp [State.addLoses, hmissed, hpresent, hfhp, hidle]

/-- R173, R209: what an accepted X.ADD leaves, with the loss it counts. -/
theorem execXAdd_addResult (hrb : s.rbInv) (haccepts : s.addAccepts) :
    ∃ events lost pending, CountsLoss lost s.addLoses ∧ execXAdd s = .next (s.addResult events lost pending) := by
  by_cases hidle : s.fhp = fhpIdleData
  · exact ⟨_, _, _, State.gapLost_countsLoss.congr (State.addLoses_iff_of_idle hidle),
      execXAdd_of_idle hrb haccepts hidle⟩
  by_cases hfhp : s.fhp = 0#11
  · cases hpending : s.stillPending with
    | false =>
      obtain ⟨_, _, -, -, hexec⟩ := frameStartingAtZeroIsCutIntoPackets s hrb haccepts hfhp hpending
      exact ⟨_, _, _, State.gapLost_countsLoss.congr (State.addLoses_iff_of_start hfhp hpending), hexec⟩
    | true =>
      obtain ⟨_, _, -, hexec⟩ := startAtZeroLosesThePendingPacket s hrb haccepts hfhp hpending
      obtain ⟨hpresent, hmissed⟩ := State.stillPending_iff.mp hpending
      exact ⟨_, _, _, .one (.inr (.inl ⟨hmissed, hpresent, hfhp⟩)), hexec⟩
  · cases hpending : s.stillPending with
    | false =>
      obtain ⟨_, _, -, hexec⟩ := continuationWithNothingPendingIsSkipped s hrb haccepts hfhp hidle hpending
      exact ⟨_, _, _, State.nothingPending_countsLoss hfhp hidle hpending, hexec⟩
    | true =>
      obtain ⟨hcomplete, hkept, hlost⟩ := pendingPacketIsContinued s hrb haccepts hfhp hidle hpending
      have hloses := State.addLoses_iff_of_continued hfhp hidle hpending
      cases hjoined : s.joinedComplete with
      | true =>
        obtain ⟨_, _, -, hexec⟩ := hcomplete hjoined
        exact ⟨_, _, _, .zero (by simp [hloses, hjoined]), hexec⟩
      | false =>
        by_cases hnone : s.fhp = fhpNoPacketStart
        · exact ⟨_, _, _, .zero (by simp [hloses, hnone]), hkept hjoined hnone⟩
        · obtain ⟨_, _, -, hexec⟩ := hlost hjoined hnone
          exact ⟨_, _, _, .one (hloses.mpr ⟨hnone, hjoined⟩), hexec⟩

end

/-! ## The counters of every command -/

/-- R22, R23, R30: from `s` to `t` these events are appended, and each counter takes one saturating increment, that of
`PACKETS_EXTRACTED` being the number of packets among the events. -/
structure State.CountsTo (s t : State) (events : List Event) (lost missing processed : Nat) : Prop where
  out : t.out = s.out ++ events
  packetsLost : t.packetsLost = satAdd s.packetsLost lost
  packetsExtracted : t.packetsExtracted = satAdd s.packetsExtracted (events.countP Event.isEmit)
  framesMissing : t.framesMissing = satAdd s.framesMissing missing
  framesProcessed : t.framesProcessed = satAdd s.framesProcessed processed

section

variable {i : Instr} {s t : State}

/-- R23: an increment by 0 leaves a counter as it was. -/
theorem State.CountsTo.of_sameExtractor (h : sameExtractor s t) (hout : t.out = s.out) : s.CountsTo t [] 0 0 0 := by
  obtain ⟨-, -, -, -, -, hprocessed, hextracted, hmissing, hlost⟩ := h
  constructor <;> simp [hout, hlost, hextracted, hmissing, hprocessed]

theorem State.addResult_countsTo (s : State) (events : List Event) (lost : Nat) (pending : Option (List Byte)) :
    s.CountsTo (s.addResult events lost pending) events lost s.missed.toNat 1 := ⟨rfl, rfl, rfl, rfl, rfl⟩

/-- R178, R209 (5): X.END loses a pending packet that is not benign. -/
theorem execXEnd_countsTo (h : execXEnd s = .next t) :
    ∃ events lost, CountsLoss lost (s.rbPresent = true ∧ rbBenign s.rb = false) ∧
      s.CountsTo t events lost 0 0 := by
  cases hpresent : s.rbPresent with
  | false =>
    obtain rfl := Host.Outcome.next.inj (h.symm.trans (execXEnd_of_absent hpresent))
    exact ⟨[], 0, .zero (by simp), by constructor <;> simp⟩
  | true =>
    cases hbenign : rbBenign s.rb with
    | true =>
      obtain rfl := Host.Outcome.next.inj (h.symm.trans (execXEnd_of_benign hpresent hbenign))
      exact ⟨[], 0, .zero (by simp), by constructor <;> simp⟩
    | false =>
      obtain rfl := Host.Outcome.next.inj (h.symm.trans (execXEnd_of_loss hpresent hbenign))
      exact ⟨[_], 1, .one ⟨rfl, rfl⟩,
        ⟨rfl, rfl, (satAdd_zero _).symm, (satAdd_zero _).symm, (satAdd_zero _).symm⟩⟩

/-- R209: what any command counts. -/
theorem exec_countsTo (hrb : s.rbInv) (h : exec i s = .next t) :
    ∃ events lost, CountsLoss lost (s.losesPacket i) ∧
      s.CountsTo t events lost (if i = .xAdd ∧ s.addAccepts then s.missed.toNat else 0)
        (if i = .xAdd ∧ s.addAccepts then 1 else 0) := by
  by_cases hAdd : i = .xAdd
  · subst hAdd
    by_cases haccepts : s.addAccepts
    · obtain ⟨events, lost, pending, hloss, hexec⟩ := execXAdd_addResult hrb haccepts
      obtain rfl := Host.Outcome.next.inj (h.symm.trans hexec)
      rw [if_pos ⟨rfl, haccepts⟩, if_pos ⟨rfl, haccepts⟩]
      refine ⟨events, lost, hloss.congr ⟨fun hloses => .inl ⟨rfl, haccepts, hloses⟩, ?_⟩, s.addResult_countsTo _ _ _⟩
      rintro (⟨-, -, hloses⟩ | ⟨hEnd, -⟩)
      · exact hloses
      · exact Instr.noConfusion hEnd
    · obtain ⟨cls, -, -, hfail⟩ := execXAdd_rejected s haccepts
      obtain rfl := Host.Outcome.next.inj (h.symm.trans hfail)
      rw [if_neg fun hadds => haccepts hadds.2, if_neg fun hadds => haccepts hadds.2]
      exact ⟨[], 0, .zero (by simp [State.losesPacket, haccepts]),
        .of_sameExtractor ⟨rfl, rfl, rfl, rfl, rfl, rfl, rfl, rfl, rfl⟩ rfl⟩
  · rw [if_neg fun hadds => hAdd hadds.1, if_neg fun hadds => hAdd hadds.1]
    by_cases hEnd : i = .xEnd
    · subst hEnd
      obtain ⟨events, lost, hloss, hcounts⟩ := execXEnd_countsTo h
      exact ⟨events, lost, hloss.congr (by simp [State.losesPacket]), hcounts⟩
    · obtain ⟨-, hunit⟩ := unitsKeepToTheirOwnState i s t h
      obtain ⟨hextractor, hout⟩ := hunit hAdd hEnd
      exact ⟨[], 0, .zero (by simp [State.losesPacket, hAdd, hEnd]), .of_sameExtractor hextractor hout⟩

end

/-! ## The statement -/

/-- Settles O47: what a command counts, each increment as its saturating sum. -/
theorem everyLossIsCountedOnce : Obligations.EveryLossIsCountedOnce := by
  refine ⟨satAdd_toNat, fun i s t hrb h => ?_⟩
  obtain ⟨events, lost, hloss, hcounts⟩ := exec_countsTo hrb h
  have hmissing : (if i = .xAdd ∧ s.addAccepts then s.missed.toNat else 0) ≤ 255 := by
    have := s.missed.isLt
    split <;> omega
  refine ⟨events, lost, _, _, hcounts.out, ?_, ?_, ?_, ?_, hloss.le_one, hmissing, rfl, rfl, ?_⟩
  · rw [hcounts.packetsLost, satAdd_toNat]
  · rw [hcounts.packetsExtracted, satAdd_toNat]
  · rw [hcounts.framesMissing, satAdd_toNat]
  · rw [hcounts.framesProcessed, satAdd_toNat]
  · simpa only [State.losesPacket, State.addLoses, and_or_left, or_assoc] using hloss.eq_one_iff

end Sys2Proof.Machine
end

section
/-! What each command answers straight after a RESET (spec/70_reset_and_hazards.md R222): no command but CRC.COMPUTE,
X.END and the counter reads accepts an empty buffer without a reader, and those answer from the reset values. -/

namespace Sys2Proof.Machine

/-- R33: what the commands find straight after a RESET. `FR_CUR` and `EXPECTED`, to which R33 gives no value, are not
among it. -/
structure State.StraightAfterReset (s : State) : Prop where
  ilen : s.ilen = 0#32
  frBound : s.frBound = false
  rbPresent : s.rbPresent = false
  framesProcessed : s.framesProcessed = 0#32
  packetsExtracted : s.packetsExtracted = 0#32
  framesMissing : s.framesMissing = 0#32
  packetsLost : s.packetsLost = 0#32

theorem hostReset_straightAfterReset (s : State) (vcid : BitVec 3) (cursor : BitVec 32) (counter : BitVec 8) :
    { hostReset s vcid with frCur := cursor, expected := counter }.StraightAfterReset :=
  ⟨rfl, rfl, rfl, rfl, rfl, rfl, rfl⟩

/-- R191: where there is no reader, a failing FR.BIND has none to drop. -/
theorem State.beforeFailure_of_unbound {s : State} (h : s.frBound = false) (i : Instr) : s.beforeFailure i = s := by
  rw [State.beforeFailure, h, ite_self, ← h]
  rfl

/-- R181 to R184: the response of a counter read where the counter is 0. -/
theorem State.respond_counter_of_zero (s : State) {counter : BitVec 32} (h : counter = 0#32) :
    s.respond 0#16 (BitVec.ofNat 64 counter.toNat) 0#32 = s.respond 0#16 0#64 0#32 := by
  rw [h]
  rfl

namespace State.StraightAfterReset

section

variable {s : State} (h : s.StraightAfterReset) {i : Instr}

include h

/-- R192: the empty buffer is no argument of FR.BIND, the frame commands and the packet commands, and the reads of a
reader and FR.OFS find none. -/
theorem badArgument (hi : i ∈ frameViewCommands ++ packetViewCommands ++
    [.frBind, .frRd1, .frRd2, .frRd4, .frRd8, .frOfs, .xAdd]) : s.badArgument i := by
  have hlen : s.len = 0 := s.len_eq_zero_iff.mpr h.ilen
  have hshort : s.len < 7 := by omega
  cases i with
  | frBind => exact .inl hlen
  | frRd1 | frRd2 | frRd4 | frRd8 => exact .inr h.frBound
  | frOfs => exact h.frBound
  | fvValidate | fvScid | fvVcid | fvMcfc | fvVcfc | fvOcf | fvFhp | fvData | xAdd => exact .inl hshort
  | pvValidate | pvApid | pvSeq | pvLen | pvStype | pvSsub | pvDest | pvTime | pvPec | pvPayload => exact .inl hshort
  | crcCompute | xEnd | xNproc | xNextr | xNmiss | xNlost => exact absurd hi (by decide)

/-- R191, R222: the failure changes the response alone. -/
theorem exec_of_badArgument (hbad : s.badArgument i) : exec i s = .next (s.respond 0x0001#16 0#64 0#32) := by
  rw [Machine.exec_of_badArgument hbad, State.beforeFailure_of_unbound h.frBound, State.fail_invalidArgument]

/-- R144: the CRC of no bytes is the initial syndrome. -/
theorem exec_crcCompute : exec .crcCompute s = .next (s.respond 0#16 0xFFFF#64 0#32) := by
  obtain ⟨-, -, hempty⟩ := crcComputeReturnsTheCrc s
  exact hempty h.ilen

/-- R178, R181 to R184: nothing is pending, and every counter is 0. -/
theorem exec_xEnd_or_counterRead (hi : i ∈ [Instr.xEnd, .xNproc, .xNextr, .xNmiss, .xNlost]) :
    exec i s = .next (s.respond 0#16 0#64 0#32) := by
  obtain ⟨hprocessed, hextracted, hmissing, hlost⟩ := counterReadsReturnTheCounters s
  simp only [List.mem_cons, List.not_mem_nil, or_false] at hi
  rcases hi with rfl | rfl | rfl | rfl | rfl
  · exact execXEnd_of_absent h.rbPresent
  · exact hprocessed.trans (congrArg Host.Outcome.next (s.respond_counter_of_zero h.framesProcessed))
  · exact hextracted.trans (congrArg Host.Outcome.next (s.respond_counter_of_zero h.packetsExtracted))
  · exact hmissing.trans (congrArg Host.Outcome.next (s.respond_counter_of_zero h.framesMissing))
  · exact hlost.trans (congrArg Host.Outcome.next (s.respond_counter_of_zero h.packetsLost))

end

end State.StraightAfterReset

/-- Settles O10: a state straight after a RESET fails every check of the argument and has only reset values to answer
from. -/
theorem commandsStraightAfterReset : Obligations.CommandsStraightAfterReset := by
  rintro s₀ vcid cursor counter s rfl
  have hreset := hostReset_straightAfterReset s₀ vcid cursor counter
  exact ⟨fun i hi => hreset.exec_of_badArgument (hreset.badArgument hi), hreset.exec_crcCompute,
    fun i hi => hreset.exec_xEnd_or_counterRead hi⟩

end Sys2Proof.Machine
end
